-- ==== Sys2Proof/Word.lean ====
section
/-! DEFINITION. The widths the spec gives to bytes, registers and bus addresses, and the set of cursor steps
(spec/00_scope.md R11, R12). -/

namespace Sys2Proof

/-- A u8: one unit of a transfer, and a provider-local index. -/
abbrev Byte := BitVec 8

/-- A u16: the contents of a register. -/
abbrev Word16 := BitVec 16

/-- A u20: an address on the bus (ADDR_BITS = 20, R9). -/
abbrev Addr := BitVec 20

/-- `Step` of R12: the set -1, 0, +1. -/
inductive Step where
  | minusOne
  | zero
  | plusOne
deriving DecidableEq, Repr

end Sys2Proof
end

