-- ==== Sys2Proof/Syntax.lean ====
section
/-! DEFINITION. The operations of the block: channel and register names, the operation word with the operands that
travel beside it (spec/30_encoding.md R63, R65), and `Instr`, one constructor per row of spec/opcode_table.json. -/

namespace Sys2Proof

/-- `ChIdx` of spec/00_scope.md R12: the three channels 0, 1, 2. -/
inductive ChIdx where
  | c0
  | c1
  | c2
deriving DecidableEq, Repr

/-- The channel's number, `index` of spec/10_state.md R29. -/
def ChIdx.num : ChIdx → Nat
  | .c0 => 0
  | .c1 => 1
  | .c2 => 2

/-- An opaque provider reference (R10, D28): decidable equality is all the block uses. DESIGN CHOICE (log 5): references
are told apart by a number, so that there are as many as a platform needs. -/
structure Provider where
  ref : Nat
deriving DecidableEq, Repr

/-- The pair (provider, provider-local index) of R12. -/
structure Trigger where
  provider : Provider
  index : Byte
deriving DecidableEq, Repr

/-- `Binding` of R12: `none` or `some(p, k)`. -/
abbrev Binding := Option Trigger

/-- A trigger id 0..31 (`TrigId` of R12): an index into the trigger table. -/
abbrev TrigId := BitVec 5

/-- The width of a register access (R65). -/
inductive Width where
  | byte
  | word
deriving DecidableEq, Repr

/-- The six registers below offset 0x10 (spec/10_state.md R19). -/
inductive GlobalReg where
  | ctl0
  | ctl1
  | ctl2
  | ctl3
  | ctl4
  | iv
deriving DecidableEq, Repr

/-- The six registers of a channel's 16-byte block (R19). -/
inductive ChannelReg where
  | ctl
  | sal
  | sah
  | dal
  | dah
  | sz
deriving DecidableEq, Repr

/-- The 24 registers of the register map R19. -/
inductive Reg where
  | global (r : GlobalReg)
  | channel (n : ChIdx) (r : ChannelReg)
deriving DecidableEq, Repr

/-- An operation as it arrives: the 10-bit operation word (R63) with every operand R65 lets travel beside it. An
operation that does not carry an operand ignores it. -/
structure Op where
  word : BitVec 10
  width : Width
  data : Word16
  provider : Provider
  index : Byte
deriving DecidableEq, Repr

/-- One constructor per row of spec/opcode_table.json, in the table's order. -/
inductive Instr where
  /-- RD_DMACTL0 (R127), word 0x000. -/
  | rdDmactl0 (width : Width)
  /-- WR_DMACTL0 (R125), word 0x080. -/
  | wrDmactl0 (width : Width) (data : Word16)
  /-- RD_DMACTL1 (R128), word 0x002. -/
  | rdDmactl1 (width : Width)
  /-- WR_DMACTL1 (R126), word 0x082. -/
  | wrDmactl1 (width : Width) (data : Word16)
  /-- RD_DMACTL2 (R129), word 0x004. -/
  | rdDmactl2 (width : Width)
  /-- WR_DMACTL2 (R132), word 0x084. -/
  | wrDmactl2 (width : Width) (data : Word16)
  /-- RD_DMACTL3 (R130), word 0x006. -/
  | rdDmactl3 (width : Width)
  /-- WR_DMACTL3 (R133), word 0x086. -/
  | wrDmactl3 (width : Width) (data : Word16)
  /-- RD_DMACTL4 (R131), word 0x008. -/
  | rdDmactl4 (width : Width)
  /-- WR_DMACTL4 (R134), word 0x088. -/
  | wrDmactl4 (width : Width) (data : Word16)
  /-- RD_DMAIV (R135), word 0x00E. -/
  | rdDmaiv (width : Width)
  /-- WR_DMAIV (R136), word 0x08E. -/
  | wrDmaiv (width : Width) (data : Word16)
  /-- RD_DMA0CTL (R88), word 0x010. -/
  | rdDma0ctl (width : Width)
  /-- WR_DMA0CTL (R87), word 0x090. -/
  | wrDma0ctl (width : Width) (data : Word16)
  /-- RD_DMA0SAL (R94), word 0x012. -/
  | rdDma0sal (width : Width)
  /-- WR_DMA0SAL (R89), word 0x092. -/
  | wrDma0sal (width : Width) (data : Word16)
  /-- RD_DMA0SAH (R95), word 0x014. -/
  | rdDma0sah (width : Width)
  /-- WR_DMA0SAH (R90), word 0x094. -/
  | wrDma0sah (width : Width) (data : Word16)
  /-- RD_DMA0DAL (R96), word 0x016. -/
  | rdDma0dal (width : Width)
  /-- WR_DMA0DAL (R91), word 0x096. -/
  | wrDma0dal (width : Width) (data : Word16)
  /-- RD_DMA0DAH (R97), word 0x018. -/
  | rdDma0dah (width : Width)
  /-- WR_DMA0DAH (R92), word 0x098. -/
  | wrDma0dah (width : Width) (data : Word16)
  /-- RD_DMA0SZ (R98), word 0x01A. -/
  | rdDma0sz (width : Width)
  /-- WR_DMA0SZ (R93), word 0x09A. -/
  | wrDma0sz (width : Width) (data : Word16)
  /-- RD_DMA1CTL (R88), word 0x020. -/
  | rdDma1ctl (width : Width)
  /-- WR_DMA1CTL (R87), word 0x0A0. -/
  | wrDma1ctl (width : Width) (data : Word16)
  /-- RD_DMA1SAL (R94), word 0x022. -/
  | rdDma1sal (width : Width)
  /-- WR_DMA1SAL (R89), word 0x0A2. -/
  | wrDma1sal (width : Width) (data : Word16)
  /-- RD_DMA1SAH (R95), word 0x024. -/
  | rdDma1sah (width : Width)
  /-- WR_DMA1SAH (R90), word 0x0A4. -/
  | wrDma1sah (width : Width) (data : Word16)
  /-- RD_DMA1DAL (R96), word 0x026. -/
  | rdDma1dal (width : Width)
  /-- WR_DMA1DAL (R91), word 0x0A6. -/
  | wrDma1dal (width : Width) (data : Word16)
  /-- RD_DMA1DAH (R97), word 0x028. -/
  | rdDma1dah (width : Width)
  /-- WR_DMA1DAH (R92), word 0x0A8. -/
  | wrDma1dah (width : Width) (data : Word16)
  /-- RD_DMA1SZ (R98), word 0x02A. -/
  | rdDma1sz (width : Width)
  /-- WR_DMA1SZ (R93), word 0x0AA. -/
  | wrDma1sz (width : Width) (data : Word16)
  /-- RD_DMA2CTL (R88), word 0x030. -/
  | rdDma2ctl (width : Width)
  /-- WR_DMA2CTL (R87), word 0x0B0. -/
  | wrDma2ctl (width : Width) (data : Word16)
  /-- RD_DMA2SAL (R94), word 0x032. -/
  | rdDma2sal (width : Width)
  /-- WR_DMA2SAL (R89), word 0x0B2. -/
  | wrDma2sal (width : Width) (data : Word16)
  /-- RD_DMA2SAH (R95), word 0x034. -/
  | rdDma2sah (width : Width)
  /-- WR_DMA2SAH (R90), word 0x0B4. -/
  | wrDma2sah (width : Width) (data : Word16)
  /-- RD_DMA2DAL (R96), word 0x036. -/
  | rdDma2dal (width : Width)
  /-- WR_DMA2DAL (R91), word 0x0B6. -/
  | wrDma2dal (width : Width) (data : Word16)
  /-- RD_DMA2DAH (R97), word 0x038. -/
  | rdDma2dah (width : Width)
  /-- WR_DMA2DAH (R92), word 0x0B8. -/
  | wrDma2dah (width : Width) (data : Word16)
  /-- RD_DMA2SZ (R98), word 0x03A. -/
  | rdDma2sz (width : Width)
  /-- WR_DMA2SZ (R93), word 0x0BA. -/
  | wrDma2sz (width : Width) (data : Word16)
  /-- FIRE (R137), word 0x100: a provider signals the trigger (p, k). -/
  | fire (p : Provider) (k : Byte)
  /-- BIND (R140), words 0x180 + t: the trigger id is X, 7 bits; ids above 31 are outside the table. -/
  | bind (t : BitVec 7) (p : Provider) (k : Byte)
  /-- STEP (R108), word 0x200: the scheduler delivers the head of the pending queue. -/
  | step
  /-- RESET (R164), word 0x280: chip reset. -/
  | reset
deriving DecidableEq, Repr

/-- The read (RD) of a register. -/
def Instr.rd : Reg → Width → Instr
  | .global .ctl0, w => .rdDmactl0 w
  | .global .ctl1, w => .rdDmactl1 w
  | .global .ctl2, w => .rdDmactl2 w
  | .global .ctl3, w => .rdDmactl3 w
  | .global .ctl4, w => .rdDmactl4 w
  | .global .iv, w => .rdDmaiv w
  | .channel .c0 .ctl, w => .rdDma0ctl w
  | .channel .c0 .sal, w => .rdDma0sal w
  | .channel .c0 .sah, w => .rdDma0sah w
  | .channel .c0 .dal, w => .rdDma0dal w
  | .channel .c0 .dah, w => .rdDma0dah w
  | .channel .c0 .sz, w => .rdDma0sz w
  | .channel .c1 .ctl, w => .rdDma1ctl w
  | .channel .c1 .sal, w => .rdDma1sal w
  | .channel .c1 .sah, w => .rdDma1sah w
  | .channel .c1 .dal, w => .rdDma1dal w
  | .channel .c1 .dah, w => .rdDma1dah w
  | .channel .c1 .sz, w => .rdDma1sz w
  | .channel .c2 .ctl, w => .rdDma2ctl w
  | .channel .c2 .sal, w => .rdDma2sal w
  | .channel .c2 .sah, w => .rdDma2sah w
  | .channel .c2 .dal, w => .rdDma2dal w
  | .channel .c2 .dah, w => .rdDma2dah w
  | .channel .c2 .sz, w => .rdDma2sz w

/-- The write (WR) of a register. -/
def Instr.wr : Reg → Width → Word16 → Instr
  | .global .ctl0, w, d => .wrDmactl0 w d
  | .global .ctl1, w, d => .wrDmactl1 w d
  | .global .ctl2, w, d => .wrDmactl2 w d
  | .global .ctl3, w, d => .wrDmactl3 w d
  | .global .ctl4, w, d => .wrDmactl4 w d
  | .global .iv, w, d => .wrDmaiv w d
  | .channel .c0 .ctl, w, d => .wrDma0ctl w d
  | .channel .c0 .sal, w, d => .wrDma0sal w d
  | .channel .c0 .sah, w, d => .wrDma0sah w d
  | .channel .c0 .dal, w, d => .wrDma0dal w d
  | .channel .c0 .dah, w, d => .wrDma0dah w d
  | .channel .c0 .sz, w, d => .wrDma0sz w d
  | .channel .c1 .ctl, w, d => .wrDma1ctl w d
  | .channel .c1 .sal, w, d => .wrDma1sal w d
  | .channel .c1 .sah, w, d => .wrDma1sah w d
  | .channel .c1 .dal, w, d => .wrDma1dal w d
  | .channel .c1 .dah, w, d => .wrDma1dah w d
  | .channel .c1 .sz, w, d => .wrDma1sz w d
  | .channel .c2 .ctl, w, d => .wrDma2ctl w d
  | .channel .c2 .sal, w, d => .wrDma2sal w d
  | .channel .c2 .sah, w, d => .wrDma2sah w d
  | .channel .c2 .dal, w, d => .wrDma2dal w d
  | .channel .c2 .dah, w, d => .wrDma2dah w d
  | .channel .c2 .sz, w, d => .wrDma2sz w d

end Sys2Proof
end

