-- ==== Sys2Proof/WellFormed.lean ====
section
/-! DEFINITION. Which terms of `Instr` are operations of the table. Every operand but one has exactly the values its type
has; the trigger id of BIND is a 7-bit field of which only 0..31 are legal (spec/30_encoding.md R68). -/

namespace Sys2Proof

/-- "ids t = 0..31 are legal" (R68): the only operand check an operation needs. -/
def Instr.wellFormed : Instr → Bool
  | .bind t _ _ => decide (t.toNat ≤ 31)
  | .rdDmactl0 _ | .wrDmactl0 _ _
  | .rdDmactl1 _ | .wrDmactl1 _ _
  | .rdDmactl2 _ | .wrDmactl2 _ _
  | .rdDmactl3 _ | .wrDmactl3 _ _
  | .rdDmactl4 _ | .wrDmactl4 _ _
  | .rdDmaiv _ | .wrDmaiv _ _
  | .rdDma0ctl _ | .wrDma0ctl _ _
  | .rdDma0sal _ | .wrDma0sal _ _
  | .rdDma0sah _ | .wrDma0sah _ _
  | .rdDma0dal _ | .wrDma0dal _ _
  | .rdDma0dah _ | .wrDma0dah _ _
  | .rdDma0sz _ | .wrDma0sz _ _
  | .rdDma1ctl _ | .wrDma1ctl _ _
  | .rdDma1sal _ | .wrDma1sal _ _
  | .rdDma1sah _ | .wrDma1sah _ _
  | .rdDma1dal _ | .wrDma1dal _ _
  | .rdDma1dah _ | .wrDma1dah _ _
  | .rdDma1sz _ | .wrDma1sz _ _
  | .rdDma2ctl _ | .wrDma2ctl _ _
  | .rdDma2sal _ | .wrDma2sal _ _
  | .rdDma2sah _ | .wrDma2sah _ _
  | .rdDma2dal _ | .wrDma2dal _ _
  | .rdDma2dah _ | .wrDma2dah _ _
  | .rdDma2sz _ | .wrDma2sz _ _
  | .fire _ _ | .step | .reset => true

end Sys2Proof
end

