-- ==== Sys2Proof/Decode.lean ====
section
/-! DEFINITION. The decoder of operation words, total over all 1024 words (spec/30_encoding.md R71), and the encoder,
written from the words of spec/opcode_table.json. -/

namespace Sys2Proof

/-- What an operation word is (R71). -/
inductive Decoded where
  /-- the word names this operation (R66 to R70) -/
  | instr (i : Instr)
  /-- KIND RD or WR with X not a decoded offset: the fault CONFIG_ADDR -/
  | configAddr (x : BitVec 7)
  /-- KIND BIND with X above 31: the fault BIND_RANGE -/
  | bindRange (t : BitVec 7)
  /-- the word names no operation: refused as RESERVED_OP -/
  | reserved (w : BitVec 10)
deriving DecidableEq, Repr

/-- KIND, `op[9:7]` (R63). -/
def kindOf (w : BitVec 10) : BitVec 3 := w.extractLsb' 7 3

/-- X, `op[6:0]` (R63). -/
def xOf (w : BitVec 10) : BitVec 7 := w.extractLsb' 0 7

/-- The register at an offset, the 24 rows of R66; every other offset is outside the decoded range (R121). -/
def regAt (x : BitVec 7) : Option Reg :=
  match x.toNat with
  | 0x00 => some (.global .ctl0)
  | 0x02 => some (.global .ctl1)
  | 0x04 => some (.global .ctl2)
  | 0x06 => some (.global .ctl3)
  | 0x08 => some (.global .ctl4)
  | 0x0E => some (.global .iv)
  | 0x10 => some (.channel .c0 .ctl)
  | 0x12 => some (.channel .c0 .sal)
  | 0x14 => some (.channel .c0 .sah)
  | 0x16 => some (.channel .c0 .dal)
  | 0x18 => some (.channel .c0 .dah)
  | 0x1A => some (.channel .c0 .sz)
  | 0x20 => some (.channel .c1 .ctl)
  | 0x22 => some (.channel .c1 .sal)
  | 0x24 => some (.channel .c1 .sah)
  | 0x26 => some (.channel .c1 .dal)
  | 0x28 => some (.channel .c1 .dah)
  | 0x2A => some (.channel .c1 .sz)
  | 0x30 => some (.channel .c2 .ctl)
  | 0x32 => some (.channel .c2 .sal)
  | 0x34 => some (.channel .c2 .sah)
  | 0x36 => some (.channel .c2 .dal)
  | 0x38 => some (.channel .c2 .dah)
  | 0x3A => some (.channel .c2 .sz)
  | _ => none

/-- R71: the classification of every operation word. The operands beside the word go to the operation that carries them
(R65); an operand the operation does not carry is ignored (DEDUCED, log 13). -/
def decode (o : Op) : Decoded :=
  match (kindOf o.word).toNat with
  | 0 =>
    match regAt (xOf o.word) with
    | some r => .instr (.rd r o.width)
    | none => .configAddr (xOf o.word)
  | 1 =>
    match regAt (xOf o.word) with
    | some r => .instr (.wr r o.width o.data)
    | none => .configAddr (xOf o.word)
  | 2 => if xOf o.word = 0#7 then .instr (.fire o.provider o.index) else .reserved o.word
  | 3 =>
    if (xOf o.word).toNat ≤ 31 then .instr (.bind (xOf o.word) o.provider o.index)
    else .bindRange (xOf o.word)
  | 4 => if xOf o.word = 0#7 then .instr .step else .reserved o.word
  | 5 => if xOf o.word = 0#7 then .instr .reset else .reserved o.word
  | _ => .reserved o.word

/-- A bare operation word: every operand beside it zero, where zero is the width WORD the table's rows carry (log 14). -/
def bareOp (w : BitVec 10) : Op := { word := w, width := .word, data := 0#16, provider := ⟨0⟩, index := 0#8 }

/-- A register read carries its width (R65). -/
def rdOp (w : BitVec 10) (width : Width) : Op := { bareOp w with width := width }

/-- A register write carries its width and its data (R65). -/
def wrOp (w : BitVec 10) (width : Width) (data : Word16) : Op := { bareOp w with width := width, data := data }

/-- FIRE and BIND carry a provider and a provider-local index (R65). -/
def providerOp (w : BitVec 10) (p : Provider) (k : Byte) : Op := { bareOp w with provider := p, index := k }

/-- The operation word of an operation, as spec/opcode_table.json has it, with its operands beside it. -/
def encode : Instr → Op
  | .rdDmactl0 w => rdOp 0x000#10 w
  | .wrDmactl0 w d => wrOp 0x080#10 w d
  | .rdDmactl1 w => rdOp 0x002#10 w
  | .wrDmactl1 w d => wrOp 0x082#10 w d
  | .rdDmactl2 w => rdOp 0x004#10 w
  | .wrDmactl2 w d => wrOp 0x084#10 w d
  | .rdDmactl3 w => rdOp 0x006#10 w
  | .wrDmactl3 w d => wrOp 0x086#10 w d
  | .rdDmactl4 w => rdOp 0x008#10 w
  | .wrDmactl4 w d => wrOp 0x088#10 w d
  | .rdDmaiv w => rdOp 0x00E#10 w
  | .wrDmaiv w d => wrOp 0x08E#10 w d
  | .rdDma0ctl w => rdOp 0x010#10 w
  | .wrDma0ctl w d => wrOp 0x090#10 w d
  | .rdDma0sal w => rdOp 0x012#10 w
  | .wrDma0sal w d => wrOp 0x092#10 w d
  | .rdDma0sah w => rdOp 0x014#10 w
  | .wrDma0sah w d => wrOp 0x094#10 w d
  | .rdDma0dal w => rdOp 0x016#10 w
  | .wrDma0dal w d => wrOp 0x096#10 w d
  | .rdDma0dah w => rdOp 0x018#10 w
  | .wrDma0dah w d => wrOp 0x098#10 w d
  | .rdDma0sz w => rdOp 0x01A#10 w
  | .wrDma0sz w d => wrOp 0x09A#10 w d
  | .rdDma1ctl w => rdOp 0x020#10 w
  | .wrDma1ctl w d => wrOp 0x0A0#10 w d
  | .rdDma1sal w => rdOp 0x022#10 w
  | .wrDma1sal w d => wrOp 0x0A2#10 w d
  | .rdDma1sah w => rdOp 0x024#10 w
  | .wrDma1sah w d => wrOp 0x0A4#10 w d
  | .rdDma1dal w => rdOp 0x026#10 w
  | .wrDma1dal w d => wrOp 0x0A6#10 w d
  | .rdDma1dah w => rdOp 0x028#10 w
  | .wrDma1dah w d => wrOp 0x0A8#10 w d
  | .rdDma1sz w => rdOp 0x02A#10 w
  | .wrDma1sz w d => wrOp 0x0AA#10 w d
  | .rdDma2ctl w => rdOp 0x030#10 w
  | .wrDma2ctl w d => wrOp 0x0B0#10 w d
  | .rdDma2sal w => rdOp 0x032#10 w
  | .wrDma2sal w d => wrOp 0x0B2#10 w d
  | .rdDma2sah w => rdOp 0x034#10 w
  | .wrDma2sah w d => wrOp 0x0B4#10 w d
  | .rdDma2dal w => rdOp 0x036#10 w
  | .wrDma2dal w d => wrOp 0x0B6#10 w d
  | .rdDma2dah w => rdOp 0x038#10 w
  | .wrDma2dah w d => wrOp 0x0B8#10 w d
  | .rdDma2sz w => rdOp 0x03A#10 w
  | .wrDma2sz w d => wrOp 0x0BA#10 w d
  | .fire p k => providerOp 0x100#10 p k
  | .bind t p k => providerOp (0b011#3 ++ t) p k
  | .step => bareOp 0x200#10
  | .reset => bareOp 0x280#10

/-- The operation the decoder reads from a table word: the word's ten bits, operands beside it zero. A number with a bit
above bit 9 is no operation word (R63). -/
def decodeTableWord (_nbits w : Nat) : Option Instr :=
  if w < 1024 then
    match decode (bareOp (BitVec.ofNat 10 w)) with
    | .instr i => some i
    | .configAddr _ | .bindRange _ | .reserved _ => none
  else none

end Sys2Proof
end

