-- ==== Sys2Proof/Config.lean ====
section
/-! DEFINITION. The parameters the spec leaves open for the chip configuration (spec/00_scope.md R10,
spec/92_eei_decisions.md D26, D27). They have no value here: `State.reset` puts them into `State.platform`. -/

namespace Sys2Proof

/-- P_BASE: bus address of register offset 0x00. DESIGN CHOICE (log 4): no number is chosen. -/
opaque Config.pBase : Addr

/-- P_VECTOR: "the controller's fixed vector number". DESIGN CHOICE (log 4): a number, none chosen. -/
opaque Config.pVector : Nat

/-- P_SOURCE: the source identity passed in `setInterruptLine`. DESIGN CHOICE (log 4): a number, none chosen. -/
opaque Config.pSource : Nat

end Sys2Proof
end

