-- ==== Sys2Proof/Machine/State.lean ====
section
/-! DEFINITION. The state of the block (spec/10_state.md R15, R28), the parameters and ports of spec/00_scope.md R10 and
spec/10_state.md R38 as plain data beside it, the reasons a step can stop, and the state after power-up (R39, R165). -/

namespace Sys2Proof.Machine

/-- The state of one channel (R28). `en` and `ifg` are live and may differ from bits 4 and 3 of `cw`. -/
structure Channel where
  /-- raw shadow of the last DMAnCTL write -/
  cw : Word16
  /-- transfer-mode code -/
  mode : BitVec 3
  dstStep : Step
  srcStep : Step
  /-- stored only -/
  dstByte : Bool
  /-- stored only -/
  srcByte : Bool
  /-- stored only -/
  level : Bool
  /-- channel armed -/
  en : Bool
  /-- interrupt flag -/
  ifg : Bool
  /-- interrupt enable -/
  ie : Bool
  /-- source base -/
  sa : Addr
  /-- destination base -/
  da : Addr
  /-- live source cursor -/
  cs : Addr
  /-- live destination cursor -/
  cd : Addr
  /-- remaining units -/
  size : Word16
  /-- reload value -/
  total : Word16
  /-- the (provider, local index) the channel answers -/
  bound : Binding
deriving DecidableEq, Repr

/-- A channel after power-up and after RESET (R39). -/
def Channel.reset : Channel :=
  { cw := 0#16, mode := 0#3, dstStep := .zero, srcStep := .zero, dstByte := false, srcByte := false, level := false,
    en := false, ifg := false, ie := false, sa := 0#20, da := 0#20, cs := 0#20, cd := 0#20, size := 0#16, total := 0#16,
    bound := none }

/-- The fault mark's code with its info (spec/60_exceptions.md R145). -/
inductive FaultMark where
  /-- RD or WR at an offset not decoded; the bus address -/
  | configAddr (addr : Addr)
  /-- RD or WR of a width other than WORD; address and width -/
  | accessWidth (addr : Addr) (width : Width)
  /-- the bus reports failure on a transfer read or write; the address -/
  | busError (addr : Addr)
  /-- STEP of an enabled channel with `size = 0`; the channel index -/
  | zeroSize (n : ChIdx)
  /-- STEP of a channel whose cursor is in the block's own window; channel index, `cs`, `cd` -/
  | selfAccess (n : ChIdx) (cs : Addr) (cd : Addr)
  /-- BIND with trigger id above 31; the id -/
  | bindRange (t : BitVec 7)
deriving DecidableEq, Repr

/-- The parameters P_BASE, P_VECTOR and P_SOURCE (spec/00_scope.md R10). No operation changes them (log 4). -/
structure Platform where
  base : Addr
  vector : Nat
  source : Nat
deriving DecidableEq, Repr

/-- The answers the surroundings give during one operation, free draws (R10; log 6, 7): the answer of
`isTriggerConditionTrue` if the operation queries a provider, and whether the bus reports a failure on its read and on
its write. -/
structure Draws where
  query : Bool
  readFails : Bool
  writeFails : Bool
deriving DecidableEq, Repr

/-- How an operation is presented: as an operation word with its operands (spec/30_encoding.md R63), or as a register
access by its bus address, of which the port forms the word (R65, spec/20_memory.md R42). -/
inductive Request where
  | op (o : Op)
  | access (isWrite : Bool) (addr : Addr) (width : Width) (data : Word16)
deriving DecidableEq, Repr

/-- One presented operation: the request, the surroundings' draws for it, and the bytes other bus masters stored since the
operation before it (spec/20_memory.md R56; log 9). -/
structure Arrival where
  request : Request
  draws : Draws
  stores : List (Addr × Byte)
deriving DecidableEq, Repr

/-- What the block drives on its ports (spec/10_state.md R38, spec/00_scope.md R13; log 10). -/
inductive Output where
  /-- `return v`: the value an RD operation returns on the register port -/
  | readData (v : Word16)
  /-- `setInterruptLine(P_VECTOR, P_SOURCE, asserted)` -/
  | setLine (vector : Nat) (source : Nat) (asserted : Bool)
  /-- `scheduleEvent(delayCycles, callback)`, the callback being channel n's transfer step -/
  | schedule (delayCycles : BitVec 32) (n : ChIdx)
  /-- `isTriggerConditionTrue(k)` asked of provider p -/
  | query (p : Provider) (k : Byte)
  /-- `registerDMA(controller)` on provider p -/
  | registerDMA (p : Provider)
  /-- `read(a, BYTE)` on the bus master port -/
  | busRead (a : Addr)
  /-- `write(a, v)` on the bus master port -/
  | busWrite (a : Addr) (v : Byte)
deriving DecidableEq, Repr

/-- Everything the spec gives the machine (R15), the parameters (R10), and its ports as data. -/
structure State where
  /-- `s.ctl[0]`, DMACTL0 (R20) -/
  ctl0 : Word16
  /-- `s.ctl[1]`, DMACTL1 (R21) -/
  ctl1 : Word16
  /-- `s.ctl[2]`, DMACTL2 (R22) -/
  ctl2 : Word16
  /-- `s.ctl[3]`, DMACTL3 (R22) -/
  ctl3 : Word16
  /-- `s.ctl[4]`, DMACTL4 (R22) -/
  ctl4 : Word16
  /-- "pendingVector", DMAIV (R23, R32) -/
  pv : Word16
  /-- the level last driven on the interrupt line (R32) -/
  irq : Bool
  /-- the trigger table (R31) -/
  table : Vector Binding 32
  ch0 : Channel
  ch1 : Channel
  ch2 : Channel
  /-- the FIFO of scheduled transfer steps, head first (R34) -/
  pending : List ChIdx
  /-- the fault mark (R35) -/
  fault : Option FaultMark
  /-- parameters, never written -/
  platform : Platform
  /-- the bytes behind the bus master port, in the canonical form of `Mem.wf` -/
  mem : List Host.Cell
  /-- the surroundings' answers for the operation in progress -/
  draws : Draws
  /-- the operations presented and not yet taken, next first (log 1) -/
  input : List Arrival
  /-- everything driven on the ports so far, oldest first (log 10) -/
  out : List Output
deriving DecidableEq, Repr

/-- Why the machine stops without a next state. -/
inductive Fault where
  /-- raised by `step` and every `exec…` from a state with a fault mark: "A state with s.fault != none accepts no
  operation" (R144). Safe: the spec's machine has no step there either. -/
  | faulted (m : FaultMark)
  /-- raised by `execStep` when `s.pending` is empty: "the operation is not enabled" (R108, spec/93 K-ORDER `stuck`).
  Safe: the spec's machine has no step there either. -/
  | stepNotEnabled
  /-- raised by `step` when no operation is presented: "it does nothing until an operation arrives" (R166). Safe. -/
  | noOperation
deriving DecidableEq, Repr

/-- Why an operation has no meaning. -/
inductive Refusal where
  /-- raised by `exec` for an operation that has no meaning yet. Safe. -/
  | notModelled (mnemonic : String)
  /-- raised by `step` for a word that names no operation: RESERVED_OP (R147). Safe: "refused, no meaning". -/
  | reservedOp (w : BitVec 10)
deriving DecidableEq, Repr

/-- Power-up (R165): the "after power-up" column of R39. The spec gives the block's own fields; the rest is named in the
log: parameters 4, `mem` 8, `draws` 6 and 7, `input` 1, `out` 10. -/
def State.reset : State :=
  { ctl0 := 0#16, ctl1 := 0#16, ctl2 := 0#16, ctl3 := 0#16, ctl4 := 0#16,
    pv := 0#16, irq := false,
    table := Vector.replicate 32 none,
    ch0 := Channel.reset, ch1 := Channel.reset, ch2 := Channel.reset,
    pending := [], fault := none,
    platform := { base := Config.pBase, vector := Config.pVector, source := Config.pSource },
    mem := [],
    draws := { query := false, readFails := false, writeFails := false },
    input := [], out := [] }

end Sys2Proof.Machine
end

