-- ==== Sys2Proof/Machine/Operands.lean ====
section
/-! DEFINITION. How the 16-bit values of registers split into fields and are put together again: transfer mode, step
codes, cursor steps, trigger select, 20-bit addresses (spec/30_encoding.md R72 to R75, spec/10_state.md R24 to R27). -/

namespace Sys2Proof

/-- `+` between a u20 cursor and a step value: (cursor + step) mod 2^20 (R11). -/
def Step.advance : Step → Addr → Addr
  | .minusOne, a => a - 1#20
  | .zero, a => a
  | .plusOne, a => a + 1#20

end Sys2Proof

namespace Sys2Proof.Machine

/-- The six named transfer modes of R72. -/
inductive TransferMode where
  | single
  | block
  | burstBlock
  | repeatedSingle
  | repeatedBlock
  | repeatedBurstBlock
deriving DecidableEq, Repr

/-- R72: code to mode. -/
def transferMode (code : BitVec 3) : TransferMode :=
  match code.toNat with
  | 0 => .single
  | 1 => .block
  | 2 | 3 => .burstBlock
  | 4 => .repeatedSingle
  | 5 => .repeatedBlock
  | _ => .repeatedBurstBlock

/-- The REPEATED_* modes of R72. -/
def TransferMode.isRepeated : TransferMode → Bool
  | .single | .block | .burstBlock => false
  | .repeatedSingle | .repeatedBlock | .repeatedBurstBlock => true

/-- `STEP(c)`, the table of R73. -/
def stepOfCode (code : BitVec 2) : Step :=
  match code.toNat with
  | 0 | 1 => .zero
  | 2 => .minusOne
  | _ => .plusOne

/-- `DECODE_CTL` (R82) on one channel: store the word and decode its fields at the positions of R24. -/
def Channel.decodeCtl (c : Channel) (v : Word16) : Channel :=
  { c with
    cw := v
    mode := v.extractLsb' 12 3
    dstStep := stepOfCode (v.extractLsb' 10 2)
    srcStep := stepOfCode (v.extractLsb' 8 2)
    dstByte := v.getLsbD 7
    srcByte := v.getLsbD 6
    level := v.getLsbD 5
    en := v.getLsbD 4
    ifg := v.getLsbD 3
    ie := v.getLsbD 2 }

/-- `tsel(n)` (R30, R74): the trigger id the global control registers select for channel n. -/
def State.tsel (s : State) : ChIdx → TrigId
  | .c0 => s.ctl0.extractLsb' 0 5
  | .c1 => s.ctl0.extractLsb' 8 5
  | .c2 => s.ctl1.extractLsb' 0 5

/-- R75: a write to a low address register replaces bits 15:0. -/
def withLow (a : Addr) (v : Word16) : Addr := a.extractLsb' 16 4 ++ v

/-- R75: a write to a high address register replaces bits 19:16 by v[3:0]; v[15:4] is discarded. -/
def withHigh (a : Addr) (v : Word16) : Addr := v.extractLsb' 0 4 ++ a.extractLsb' 0 16

/-- R75: what a low address register reads. -/
def lowOf (a : Addr) : Word16 := a.extractLsb' 0 16

/-- R75: what a high address register reads, bits 15:4 zero. -/
def highOf (a : Addr) : Word16 := (a.extractLsb' 16 4).setWidth 16

/-- R89, R90: a source base write reseeds the source cursor. -/
def Channel.setSource (c : Channel) (a : Addr) : Channel := { c with sa := a, cs := a }

/-- R91, R92: a destination base write reseeds the destination cursor. -/
def Channel.setDestination (c : Channel) (a : Addr) : Channel := { c with da := a, cd := a }

/-- R93: a size write sets the remaining count and the reload value. -/
def Channel.setSize (c : Channel) (v : Word16) : Channel := { c with size := v, total := v }

end Sys2Proof.Machine
end

