-- ==== Sys2Proof/Machine/Flags.lean ====
section
/-! DEFINITION. The flags `en`, `ifg`, `ie` of a channel and the vector value: control-word read assembly, what counts as
a pending interrupt, and the vector encoding (spec/30_encoding.md R76, R77, spec/10_state.md R30, R37). -/

namespace Sys2Proof.Machine

/-- R77: the stored control word with bit 3 replaced by the live flag. -/
def Channel.readCtl (c : Channel) : Word16 :=
  (c.cw &&& 0xFFF7#16) ||| ((BitVec.ofBool c.ifg).setWidth 16 <<< 3)

/-- `repeated(n) = mode[2]` (R30). -/
def Channel.repeated (c : Channel) : Bool := c.mode.getLsbD 2

/-- The rescan's condition `ie = 1 and ifg = 1` (R114). -/
def Channel.wantsVector (c : Channel) : Bool := c.ie && c.ifg

/-- R114: RELEASE clears the owner's live flag and bit 3 of its control shadow. -/
def Channel.clearFlag (c : Channel) : Channel := { c with ifg := false, cw := c.cw &&& 0xFFF7#16 }

/-- R76: the vector value of channel n, `2·(n+1)`. -/
def vectorOf (n : ChIdx) : Word16 := 2#16 * (BitVec.ofNat 16 n.num + 1#16)

/-- R76: a non-zero `pv` names channel `pv/2 - 1`, in u16 arithmetic (DEDUCED, log 12, for values no run reaches). -/
def ownerIndex (pv : Word16) : Word16 := pv / 2#16 - 1#16

/-- The channel a non-zero `pv` names, if there is one; 0 means no owner (R30, R76). -/
def ownerOf (pv : Word16) : Option ChIdx :=
  if pv = 0#16 then none
  else if ownerIndex pv = 0#16 then some .c0
  else if ownerIndex pv = 1#16 then some .c1
  else if ownerIndex pv = 2#16 then some .c2
  else none

end Sys2Proof.Machine
end

