-- ==== Sys2Proof/Machine/Ops.lean ====
section
/-! DEFINITION. The operations every meaning is built from: the bus memory, channel and table access, the output trace,
raising a fault, the register port's checks, the arbiter procedures ACQUIRE and RELEASE, binding and scheduling. -/

namespace Sys2Proof.Machine

/-! ### The bus memory (R41, R51, R52) -/

/-- What an address reads as that nothing has written. DESIGN CHOICE 0x00 (log 8): the contents of the bus are a parameter
of the spec, and here they are `State.mem`. -/
def Mem.unlisted : Byte := 0#8

/-- The byte at an address. -/
def Mem.read : List Host.Cell → Nat → Byte
  | [], _ => Mem.unlisted
  | (b, v) :: m, a => if a = b then v else Mem.read m a

/-- Put a cell at the head unless it holds what an unlisted address reads as. -/
def Mem.cons (a : Nat) (v : Byte) (m : List Host.Cell) : List Host.Cell :=
  if v = Mem.unlisted then m else (a, v) :: m

/-- Store one byte, keeping the canonical form. -/
def Mem.write : List Host.Cell → Nat → Byte → List Host.Cell
  | [], a, v => Mem.cons a v []
  | (b, u) :: m, a, v =>
    if a < b then Mem.cons a v ((b, u) :: m)
    else if a = b then Mem.cons a v m
    else (b, u) :: Mem.write m a v

/-- Every cell lies at or above `lo`, below 2^20, addresses strictly rise, and no cell holds the unlisted byte. -/
def Mem.wfFrom (lo : Nat) : List Host.Cell → Bool
  | [] => true
  | (a, v) :: m => decide (lo ≤ a) && decide (a < 0x100000) && decide (v ≠ Mem.unlisted) && Mem.wfFrom (a + 1) m

/-- The canonical form of the memory, within the 20-bit address space. -/
def Mem.wf (m : List Host.Cell) : Bool := Mem.wfFrom 0 m

/-- The byte at a bus address. -/
def State.readByte (s : State) (a : Addr) : Byte := Mem.read s.mem a.toNat

/-- The state with one byte of the bus memory stored. -/
def State.storeByte (s : State) (a : Addr) (v : Byte) : State := { s with mem := Mem.write s.mem a.toNat v }

/-- Stores of other bus masters, oldest first (R56). -/
def storeAll (m : List Host.Cell) : List (Addr × Byte) → List Host.Cell
  | [] => m
  | (a, v) :: rest => storeAll (Mem.write m a.toNat v) rest

/-! ### Channels and trigger table -/

/-- `ch[n]`. -/
def State.ch (s : State) : ChIdx → Channel
  | .c0 => s.ch0
  | .c1 => s.ch1
  | .c2 => s.ch2

/-- `ch[n] <- c`. -/
def State.setCh (s : State) : ChIdx → Channel → State
  | .c0, c => { s with ch0 := c }
  | .c1, c => { s with ch1 := c }
  | .c2, c => { s with ch2 := c }

/-- `s.table[t]` (R31). -/
def State.tableAt (s : State) (t : TrigId) : Binding := s.table[t.toNat]'t.isLt

/-- `s.table[t] <- b`. -/
def State.setTable (s : State) (t : TrigId) (b : Binding) : State := { s with table := s.table.set t.toNat b t.isLt }

/-- `BIND(n, t)` (R124): the channel takes a copy of the entry as it is now. -/
def State.bindChannel (s : State) (n : ChIdx) (t : TrigId) : State :=
  s.setCh n { s.ch n with bound := s.tableAt t }

/-! ### Outputs, faults and the register port -/

/-- Drive one output on the block's ports. -/
def State.emit (s : State) (o : Output) : State := { s with out := s.out ++ [o] }

/-- `emit SetLine(b)` (R13): the line is identified by P_VECTOR and P_SOURCE (R116). -/
def State.setLine (s : State) (b : Bool) : State := s.emit (.setLine s.platform.vector s.platform.source b)

/-- `return v` (R13). -/
def State.returnData (s : State) (v : Word16) : State := s.emit (.readData v)

/-- `s.pending <- s.pending ++ [n] ; emit Schedule(n)`, always with delay 0 (R34, R177). -/
def State.schedule (s : State) (n : ChIdx) : State := { s with pending := s.pending ++ [n] }.emit (.schedule 0#32 n)

/-- `raise Fault(code, info)` (R144): the mark is set; what the operation changed before is discarded by the caller (D32,
DESIGN CHOICE, log 2). -/
def State.raise (s : State) (m : FaultMark) : State := { s with fault := some m }

/-- The code numbers of R145. -/
def FaultMark.code : FaultMark → Nat
  | .configAddr _ => 1
  | .accessWidth _ _ => 2
  | .busError _ => 3
  | .zeroSize _ => 4
  | .selfAccess _ _ _ => 5
  | .bindRange _ => 6

/-- R144: a state with a fault mark accepts no operation. -/
def State.accept (s : State) (k : Host.Outcome State Fault Refusal) : Host.Outcome State Fault Refusal :=
  match s.fault with
  | some m => .fault (.faulted m)
  | none => k

/-- `P_BASE + off`. -/
def State.busAddr (s : State) (off : BitVec 7) : Addr := s.platform.base + off.setWidth 20

/-- A decoded register access at an offset: the width check of R122, then the register's own effect. -/
def State.portAccess (s : State) (off : BitVec 7) (w : Width) (effect : State) : Host.Outcome State Fault Refusal :=
  s.accept
    (match w with
    | .word => .next effect
    | .byte => .next (s.raise (.accessWidth (s.busAddr off) w)))

/-! ### Arbiter (spec/42_interrupt_arbiter.md) -/

/-- ACQUIRE(i) (R113): interrupt entry on the block's side (R155). -/
def State.acquire (s : State) (i : ChIdx) : State :=
  if s.pv = 0#16 then { s with pv := vectorOf i, irq := true }.setLine true
  else if BitVec.ofNat 16 i.num < ownerIndex s.pv then { s with pv := vectorOf i }
  else s

/-- The flag clear of RELEASE (R114): only the owner's, and nobody's while `s.pv = 0`. -/
def State.clearOwner (s : State) : State :=
  match ownerOf s.pv with
  | some o => s.setCh o (s.ch o).clearFlag
  | none => s

/-- The rescan of RELEASE (R114): the first channel in index order with `ie` and `ifg` acquires the vector. -/
def State.rescan (s : State) : State :=
  if s.ch0.wantsVector then s.acquire .c0
  else if s.ch1.wantsVector then s.acquire .c1
  else if s.ch2.wantsVector then s.acquire .c2
  else s

/-- RELEASE() (R114): the acknowledge on the block's side (R157). -/
def State.release (s : State) : State :=
  ({ ({ s.clearOwner with irq := false }.setLine false) with pv := 0#16 } : State).rescan

/-! ### Bus master port (R52) -/

/-- The result of a bus access: the machine goes on with a value, or a fault was raised and ends the operation. -/
inductive Attempt (α : Type) where
  | done (v : α) (s : State)
  | raised (s : State)

/-- `MemRead(a, 1)` (R52): one byte read; BUS_ERROR when the bus reports a failure. -/
def State.memRead (s : State) (a : Addr) : Attempt Byte :=
  if s.draws.readFails then .raised ((s.emit (.busRead a)).raise (.busError a))
  else .done (s.readByte a) (s.emit (.busRead a))

/-- `MemWrite(a, 1, v)` (R52): one byte write; BUS_ERROR when the bus reports a failure, and then nothing is stored.
What the write makes another peripheral do is presented as an operation of its own (R62; DEDUCED, log 17). -/
def State.memWrite (s : State) (a : Addr) (v : Byte) : Attempt Unit :=
  if s.draws.writeFails then .raised ((s.emit (.busWrite a v)).raise (.busError a))
  else .done () ((s.emit (.busWrite a v)).storeByte a v)

/-- `inWindow(a)` (R104): the block's own register window, taken modulo 2^20 (R53; log 15). -/
def State.inWindow (s : State) (a : Addr) : Bool := decide (a - s.platform.base < 0x40#20)

end Sys2Proof.Machine
end

