-- ==== Sys2Proof/Machine/Channel.lean ====
section
/-! DEFINITION. The meanings of the channel register operations (spec/40_channel_registers.md R81 to R99). -/

namespace Sys2Proof.Machine

/-- `baseOffset` (R29): where channel n's 16-byte block begins. -/
def baseOffset (n : ChIdx) : BitVec 7 := 0x10#7 + 0x10#7 * BitVec.ofNat 7 n.num

/-! ### CONFIGURE (R81), part by part -/

/-- R83, C2: a write of bit 3 = 0 while the old `ie` was 1 releases the vector, if this channel owns it. -/
def State.flagClearRelease (s : State) (n : ChIdx) (v : Word16) (oldIe : Bool) : State :=
  if v.getLsbD 3 = false ∧ oldIe = true ∧ s.pv = vectorOf n then s.release else s

/-- R84: a write of bits 3 and 2 both 1 (re)acquires the vector. -/
def State.flagEnableAcquire (s : State) (n : ChIdx) (v : Word16) : State :=
  if v.getLsbD 3 = true ∧ v.getLsbD 2 = true then s.acquire n else s

/-- R85, C4: arming a bound channel queries its provider once; a true answer schedules one step of this channel. -/
def State.armingCatchUp (s : State) (n : ChIdx) (v : Word16) (oldEn : Bool) : State :=
  if oldEn = false ∧ v.getLsbD 4 = true then
    match (s.ch n).bound with
    | some t =>
      if s.draws.query then (s.emit (.query t.provider t.index)).schedule n
      else s.emit (.query t.provider t.index)
    | none => s
  else s

/-- R86: bit 0 = 1 schedules one step of this channel when its trigger select is 0. -/
def State.softwareRequest (s : State) (n : ChIdx) (v : Word16) : State :=
  if v.getLsbD 0 = true ∧ s.tsel n = 0#5 then s.schedule n else s

/-- `CONFIGURE(n, v)` (R81): the parts in the rule's order, on the old `en` and `ie`. -/
def State.configure (s : State) (n : ChIdx) (v : Word16) : State :=
  ((((s.setCh n ((s.ch n).decodeCtl v)).flagClearRelease n v (s.ch n).ie).flagEnableAcquire n v).armingCatchUp n v
    (s.ch n).en).softwareRequest n v

/-! ### The register operations of channel n -/

/-- RD_DMAnCTL (R88). -/
def State.readCtl (s : State) (n : ChIdx) (w : Width) : Host.Outcome State Fault Refusal :=
  s.portAccess (baseOffset n + 0x0#7) w (s.returnData (s.ch n).readCtl)

/-- WR_DMAnCTL (R87). -/
def State.writeCtl (s : State) (n : ChIdx) (w : Width) (d : Word16) : Host.Outcome State Fault Refusal :=
  s.portAccess (baseOffset n + 0x0#7) w (s.configure n d)

/-- RD_DMAnSAL (R94): the base, never the cursor. -/
def State.readSal (s : State) (n : ChIdx) (w : Width) : Host.Outcome State Fault Refusal :=
  s.portAccess (baseOffset n + 0x2#7) w (s.returnData (lowOf (s.ch n).sa))

/-- WR_DMAnSAL (R89). -/
def State.writeSal (s : State) (n : ChIdx) (w : Width) (d : Word16) : Host.Outcome State Fault Refusal :=
  s.portAccess (baseOffset n + 0x2#7) w (s.setCh n ((s.ch n).setSource (withLow (s.ch n).sa d)))

/-- RD_DMAnSAH (R95). -/
def State.readSah (s : State) (n : ChIdx) (w : Width) : Host.Outcome State Fault Refusal :=
  s.portAccess (baseOffset n + 0x4#7) w (s.returnData (highOf (s.ch n).sa))

/-- WR_DMAnSAH (R90). -/
def State.writeSah (s : State) (n : ChIdx) (w : Width) (d : Word16) : Host.Outcome State Fault Refusal :=
  s.portAccess (baseOffset n + 0x4#7) w (s.setCh n ((s.ch n).setSource (withHigh (s.ch n).sa d)))

/-- RD_DMAnDAL (R96): the base, never the cursor. -/
def State.readDal (s : State) (n : ChIdx) (w : Width) : Host.Outcome State Fault Refusal :=
  s.portAccess (baseOffset n + 0x6#7) w (s.returnData (lowOf (s.ch n).da))

/-- WR_DMAnDAL (R91). -/
def State.writeDal (s : State) (n : ChIdx) (w : Width) (d : Word16) : Host.Outcome State Fault Refusal :=
  s.portAccess (baseOffset n + 0x6#7) w (s.setCh n ((s.ch n).setDestination (withLow (s.ch n).da d)))

/-- RD_DMAnDAH (R97). -/
def State.readDah (s : State) (n : ChIdx) (w : Width) : Host.Outcome State Fault Refusal :=
  s.portAccess (baseOffset n + 0x8#7) w (s.returnData (highOf (s.ch n).da))

/-- WR_DMAnDAH (R92). -/
def State.writeDah (s : State) (n : ChIdx) (w : Width) (d : Word16) : Host.Outcome State Fault Refusal :=
  s.portAccess (baseOffset n + 0x8#7) w (s.setCh n ((s.ch n).setDestination (withHigh (s.ch n).da d)))

/-- RD_DMAnSZ (R98): the live remaining count. -/
def State.readSz (s : State) (n : ChIdx) (w : Width) : Host.Outcome State Fault Refusal :=
  s.portAccess (baseOffset n + 0xA#7) w (s.returnData (s.ch n).size)

/-- WR_DMAnSZ (R93). -/
def State.writeSz (s : State) (n : ChIdx) (w : Width) (d : Word16) : Host.Outcome State Fault Refusal :=
  s.portAccess (baseOffset n + 0xA#7) w (s.setCh n ((s.ch n).setSize d))

/-! ### Channel 0 -/

/-- RD_DMA0CTL (R88). -/
def execRdDma0ctl (w : Width) (s : State) : Host.Outcome State Fault Refusal := s.readCtl .c0 w

/-- WR_DMA0CTL (R87). -/
def execWrDma0ctl (w : Width) (d : Word16) (s : State) : Host.Outcome State Fault Refusal := s.writeCtl .c0 w d

/-- RD_DMA0SAL (R94). -/
def execRdDma0sal (w : Width) (s : State) : Host.Outcome State Fault Refusal := s.readSal .c0 w

/-- WR_DMA0SAL (R89). -/
def execWrDma0sal (w : Width) (d : Word16) (s : State) : Host.Outcome State Fault Refusal := s.writeSal .c0 w d

/-- RD_DMA0SAH (R95). -/
def execRdDma0sah (w : Width) (s : State) : Host.Outcome State Fault Refusal := s.readSah .c0 w

/-- WR_DMA0SAH (R90). -/
def execWrDma0sah (w : Width) (d : Word16) (s : State) : Host.Outcome State Fault Refusal := s.writeSah .c0 w d

/-- RD_DMA0DAL (R96). -/
def execRdDma0dal (w : Width) (s : State) : Host.Outcome State Fault Refusal := s.readDal .c0 w

/-- WR_DMA0DAL (R91). -/
def execWrDma0dal (w : Width) (d : Word16) (s : State) : Host.Outcome State Fault Refusal := s.writeDal .c0 w d

/-- RD_DMA0DAH (R97). -/
def execRdDma0dah (w : Width) (s : State) : Host.Outcome State Fault Refusal := s.readDah .c0 w

/-- WR_DMA0DAH (R92). -/
def execWrDma0dah (w : Width) (d : Word16) (s : State) : Host.Outcome State Fault Refusal := s.writeDah .c0 w d

/-- RD_DMA0SZ (R98). -/
def execRdDma0sz (w : Width) (s : State) : Host.Outcome State Fault Refusal := s.readSz .c0 w

/-- WR_DMA0SZ (R93). -/
def execWrDma0sz (w : Width) (d : Word16) (s : State) : Host.Outcome State Fault Refusal := s.writeSz .c0 w d

/-! ### Channel 1 -/

/-- RD_DMA1CTL (R88). -/
def execRdDma1ctl (w : Width) (s : State) : Host.Outcome State Fault Refusal := s.readCtl .c1 w

/-- WR_DMA1CTL (R87). -/
def execWrDma1ctl (w : Width) (d : Word16) (s : State) : Host.Outcome State Fault Refusal := s.writeCtl .c1 w d

/-- RD_DMA1SAL (R94). -/
def execRdDma1sal (w : Width) (s : State) : Host.Outcome State Fault Refusal := s.readSal .c1 w

/-- WR_DMA1SAL (R89). -/
def execWrDma1sal (w : Width) (d : Word16) (s : State) : Host.Outcome State Fault Refusal := s.writeSal .c1 w d

/-- RD_DMA1SAH (R95). -/
def execRdDma1sah (w : Width) (s : State) : Host.Outcome State Fault Refusal := s.readSah .c1 w

/-- WR_DMA1SAH (R90). -/
def execWrDma1sah (w : Width) (d : Word16) (s : State) : Host.Outcome State Fault Refusal := s.writeSah .c1 w d

/-- RD_DMA1DAL (R96). -/
def execRdDma1dal (w : Width) (s : State) : Host.Outcome State Fault Refusal := s.readDal .c1 w

/-- WR_DMA1DAL (R91). -/
def execWrDma1dal (w : Width) (d : Word16) (s : State) : Host.Outcome State Fault Refusal := s.writeDal .c1 w d

/-- RD_DMA1DAH (R97). -/
def execRdDma1dah (w : Width) (s : State) : Host.Outcome State Fault Refusal := s.readDah .c1 w

/-- WR_DMA1DAH (R92). -/
def execWrDma1dah (w : Width) (d : Word16) (s : State) : Host.Outcome State Fault Refusal := s.writeDah .c1 w d

/-- RD_DMA1SZ (R98). -/
def execRdDma1sz (w : Width) (s : State) : Host.Outcome State Fault Refusal := s.readSz .c1 w

/-- WR_DMA1SZ (R93). -/
def execWrDma1sz (w : Width) (d : Word16) (s : State) : Host.Outcome State Fault Refusal := s.writeSz .c1 w d

/-! ### Channel 2 -/

/-- RD_DMA2CTL (R88). -/
def execRdDma2ctl (w : Width) (s : State) : Host.Outcome State Fault Refusal := s.readCtl .c2 w

/-- WR_DMA2CTL (R87). -/
def execWrDma2ctl (w : Width) (d : Word16) (s : State) : Host.Outcome State Fault Refusal := s.writeCtl .c2 w d

/-- RD_DMA2SAL (R94). -/
def execRdDma2sal (w : Width) (s : State) : Host.Outcome State Fault Refusal := s.readSal .c2 w

/-- WR_DMA2SAL (R89). -/
def execWrDma2sal (w : Width) (d : Word16) (s : State) : Host.Outcome State Fault Refusal := s.writeSal .c2 w d

/-- RD_DMA2SAH (R95). -/
def execRdDma2sah (w : Width) (s : State) : Host.Outcome State Fault Refusal := s.readSah .c2 w

/-- WR_DMA2SAH (R90). -/
def execWrDma2sah (w : Width) (d : Word16) (s : State) : Host.Outcome State Fault Refusal := s.writeSah .c2 w d

/-- RD_DMA2DAL (R96). -/
def execRdDma2dal (w : Width) (s : State) : Host.Outcome State Fault Refusal := s.readDal .c2 w

/-- WR_DMA2DAL (R91). -/
def execWrDma2dal (w : Width) (d : Word16) (s : State) : Host.Outcome State Fault Refusal := s.writeDal .c2 w d

/-- RD_DMA2DAH (R97). -/
def execRdDma2dah (w : Width) (s : State) : Host.Outcome State Fault Refusal := s.readDah .c2 w

/-- WR_DMA2DAH (R92). -/
def execWrDma2dah (w : Width) (d : Word16) (s : State) : Host.Outcome State Fault Refusal := s.writeDah .c2 w d

/-- RD_DMA2SZ (R98). -/
def execRdDma2sz (w : Width) (s : State) : Host.Outcome State Fault Refusal := s.readSz .c2 w

/-- WR_DMA2SZ (R93). -/
def execWrDma2sz (w : Width) (d : Word16) (s : State) : Host.Outcome State Fault Refusal := s.writeSz .c2 w d
end Sys2Proof.Machine
end

