-- ==== Sys2Proof/Machine/Global.lean ====
section
/-! DEFINITION. The meanings of the register operations below offset 0x10: the global control registers
(spec/43_controller.md R125 to R134) and the vector register DMAIV (R135, R136). -/

namespace Sys2Proof.Machine

/-- RD_DMACTL0 (R127): the raw shadow. -/
def execRdDmactl0 (w : Width) (s : State) : Host.Outcome State Fault Refusal :=
  s.portAccess 0x00#7 w (s.returnData s.ctl0)

/-- WR_DMACTL0 (R125): store, then rebind channels 0 and 1. -/
def execWrDmactl0 (w : Width) (d : Word16) (s : State) : Host.Outcome State Fault Refusal :=
  s.portAccess 0x00#7 w
    (({ s with ctl0 := d }.bindChannel .c0 (d.extractLsb' 0 5)).bindChannel .c1 (d.extractLsb' 8 5))

/-- RD_DMACTL1 (R128): the raw shadow. -/
def execRdDmactl1 (w : Width) (s : State) : Host.Outcome State Fault Refusal :=
  s.portAccess 0x02#7 w (s.returnData s.ctl1)

/-- WR_DMACTL1 (R126): store, then rebind channel 2. -/
def execWrDmactl1 (w : Width) (d : Word16) (s : State) : Host.Outcome State Fault Refusal :=
  s.portAccess 0x02#7 w ({ s with ctl1 := d }.bindChannel .c2 (d.extractLsb' 0 5))

/-- RD_DMACTL2 (R129): the raw shadow. -/
def execRdDmactl2 (w : Width) (s : State) : Host.Outcome State Fault Refusal :=
  s.portAccess 0x04#7 w (s.returnData s.ctl2)

/-- WR_DMACTL2 (R132): a reserved control, stored only. -/
def execWrDmactl2 (w : Width) (d : Word16) (s : State) : Host.Outcome State Fault Refusal :=
  s.portAccess 0x04#7 w { s with ctl2 := d }

/-- RD_DMACTL3 (R130): the raw shadow. -/
def execRdDmactl3 (w : Width) (s : State) : Host.Outcome State Fault Refusal :=
  s.portAccess 0x06#7 w (s.returnData s.ctl3)

/-- WR_DMACTL3 (R133): a reserved control, stored only. -/
def execWrDmactl3 (w : Width) (d : Word16) (s : State) : Host.Outcome State Fault Refusal :=
  s.portAccess 0x06#7 w { s with ctl3 := d }

/-- RD_DMACTL4 (R131): the raw shadow. -/
def execRdDmactl4 (w : Width) (s : State) : Host.Outcome State Fault Refusal :=
  s.portAccess 0x08#7 w (s.returnData s.ctl4)

/-- WR_DMACTL4 (R134): a reserved control, stored only. -/
def execWrDmactl4 (w : Width) (d : Word16) (s : State) : Host.Outcome State Fault Refusal :=
  s.portAccess 0x08#7 w { s with ctl4 := d }

/-- RD_DMAIV (R135): the value is returned, then RELEASE runs (R118; the order of the two in the
trace: DESIGN CHOICE, log 10). -/
def execRdDmaiv (w : Width) (s : State) : Host.Outcome State Fault Refusal :=
  s.portAccess 0x0E#7 w (s.returnData s.pv).release

/-- WR_DMAIV (R136): RELEASE; the written value is not stored and does not matter. -/
def execWrDmaiv (w : Width) (_d : Word16) (s : State) : Host.Outcome State Fault Refusal :=
  s.portAccess 0x0E#7 w s.release

end Sys2Proof.Machine
end

