-- ==== Sys2Proof/Machine/Multiplexer.lean ====
section
/-! DEFINITION. The trigger multiplexer: the meanings of FIRE and BIND (spec/43_controller.md R137 to R142). -/

namespace Sys2Proof.Machine

/-- FIRE for one channel (R137): it is scheduled when its copied binding is the trigger that fired. -/
def State.fireChannel (s : State) (t : Trigger) (n : ChIdx) : State :=
  if (s.ch n).bound = some t then s.schedule n else s

/-- FIRE (R137): the channels in ascending index order (R138). -/
def execFire (p : Provider) (k : Byte) (s : State) : Host.Outcome State Fault Refusal :=
  s.accept (.next (((s.fireChannel ⟨p, k⟩ .c0).fireChannel ⟨p, k⟩ .c1).fireChannel ⟨p, k⟩ .c2))

/-- BIND (R140): the table entry is written and `registerDMA` sent, an id above 31 raises BIND_RANGE. -/
def execBind (t : BitVec 7) (p : Provider) (k : Byte) (s : State) : Host.Outcome State Fault Refusal :=
  s.accept
    (if t.toNat > 31 then .next (s.raise (.bindRange t))
    else .next ((s.setTable (t.setWidth 5) (some ⟨p, k⟩)).emit (.registerDMA p)))

end Sys2Proof.Machine
end

