-- ==== Sys2Proof/Machine/Reset.lean ====
section
/-! DEFINITION. The meaning of RESET (spec/70_reset_and_hazards.md R164, the "after RESET" column of R39). -/

namespace Sys2Proof.Machine

/-- Every field of R39 at its "after RESET" value; the trigger table is unchanged, and so is
what R39 does not list (DEDUCED, log 11). -/
def State.chipReset (s : State) : State :=
  { s with
    ctl0 := 0#16, ctl1 := 0#16, ctl2 := 0#16, ctl3 := 0#16, ctl4 := 0#16, pv := 0#16, irq := false,
    ch0 := Channel.reset, ch1 := Channel.reset, ch2 := Channel.reset, pending := [] }

/-- RESET (R164): one `SetLine(false)` if the line was asserted. -/
def execReset (s : State) : Host.Outcome State Fault Refusal :=
  s.accept (.next (if s.irq then s.chipReset.setLine false else s.chipReset))

end Sys2Proof.Machine
end

