-- ==== Sys2Proof/Machine/Transfer.lean ====
section
/-! DEFINITION. The transfer step and the meaning of STEP (spec/41_channel_transfer.md R104 to R112). -/

namespace Sys2Proof.Machine

/-- Part 4 of TRANSFER (R104, R106): the cursors step modulo 2^20 and the count goes down by one. -/
def Channel.countDown (c : Channel) : Channel :=
  { c with cs := c.srcStep.advance c.cs, cd := c.dstStep.advance c.cd, size := c.size - 1#16 }

/-- The channel's part of end of block (R107): reload, a non-repeated channel clears `en`, `ifg` is set. -/
def Channel.reload (c : Channel) : Channel :=
  { c with cs := c.sa, cd := c.da, size := c.total, en := c.en && c.repeated, ifg := true }

/-- Part 5 of TRANSFER: the end of the block of channel n, with ACQUIRE when `ie = 1` (R107). -/
def State.endBlock (s : State) (n : ChIdx) : State :=
  if (s.ch n).ie then (s.setCh n (s.ch n).reload).acquire n else s.setCh n (s.ch n).reload

/-- Parts 4 and 5 of TRANSFER: count down, and end the block when the count reaches 0. -/
def State.advance (s : State) (n : ChIdx) : State :=
  if (s.ch n).countDown.size = 0#16 then (s.setCh n (s.ch n).countDown).endBlock n
  else s.setCh n (s.ch n).countDown

/-- The bus part of TRANSFER: one byte read at `cs`, the same byte written at `cd` (R105), then the counters. -/
def State.moveByte (s : State) (n : ChIdx) : Attempt Unit :=
  match s.memRead (s.ch n).cs with
  | .raised t => .raised t
  | .done b t =>
    match t.memWrite (s.ch n).cd b with
    | .raised u => .raised u
    | .done _ u => .done () (u.advance n)

/-- `TRANSFER(n)` (R104), its checks in the order of spec/60_exceptions.md R146. -/
def State.transfer (s : State) (n : ChIdx) : Attempt Unit :=
  if (s.ch n).en = false then .done () s
  else if (s.ch n).size = 0#16 then .raised (s.raise (.zeroSize n))
  else if s.inWindow (s.ch n).cs = true ∨ s.inWindow (s.ch n).cd = true then
    .raised (s.raise (.selfAccess n (s.ch n).cs (s.ch n).cd))
  else s.moveByte n

/-- STEP (R108): the head of the queue is taken and its channel's transfer runs; not enabled on an empty queue. A step
that raises a fault leaves the queue as it was (D32, log 2). -/
def execStep (s : State) : Host.Outcome State Fault Refusal :=
  s.accept
    (match s.pending with
    | [] => .fault .stepNotEnabled
    | n :: rest =>
      match s.transfer n with
      | .raised t => .next t
      | .done _ t => .next { t with pending := rest })

end Sys2Proof.Machine
end

