-- ==== Sys2Proof/Machine/Dispatch.lean ====
section
/-! DEFINITION. One arm per constructor of `Instr`: the meaning of each operation. -/

namespace Sys2Proof.Machine

def exec (i : Instr) (s : State) : Host.Outcome State Fault Refusal :=
  match i with
  | .rdDmactl0 w => Sys2Proof.Machine.execRdDmactl0 w s
  | .wrDmactl0 w d => Sys2Proof.Machine.execWrDmactl0 w d s
  | .rdDmactl1 w => Sys2Proof.Machine.execRdDmactl1 w s
  | .wrDmactl1 w d => Sys2Proof.Machine.execWrDmactl1 w d s
  | .rdDmactl2 w => Sys2Proof.Machine.execRdDmactl2 w s
  | .wrDmactl2 w d => Sys2Proof.Machine.execWrDmactl2 w d s
  | .rdDmactl3 w => Sys2Proof.Machine.execRdDmactl3 w s
  | .wrDmactl3 w d => Sys2Proof.Machine.execWrDmactl3 w d s
  | .rdDmactl4 w => Sys2Proof.Machine.execRdDmactl4 w s
  | .wrDmactl4 w d => Sys2Proof.Machine.execWrDmactl4 w d s
  | .rdDmaiv w => Sys2Proof.Machine.execRdDmaiv w s
  | .wrDmaiv w d => Sys2Proof.Machine.execWrDmaiv w d s
  | .rdDma0ctl w => Sys2Proof.Machine.execRdDma0ctl w s
  | .wrDma0ctl w d => Sys2Proof.Machine.execWrDma0ctl w d s
  | .rdDma0sal w => Sys2Proof.Machine.execRdDma0sal w s
  | .wrDma0sal w d => Sys2Proof.Machine.execWrDma0sal w d s
  | .rdDma0sah w => Sys2Proof.Machine.execRdDma0sah w s
  | .wrDma0sah w d => Sys2Proof.Machine.execWrDma0sah w d s
  | .rdDma0dal w => Sys2Proof.Machine.execRdDma0dal w s
  | .wrDma0dal w d => Sys2Proof.Machine.execWrDma0dal w d s
  | .rdDma0dah w => Sys2Proof.Machine.execRdDma0dah w s
  | .wrDma0dah w d => Sys2Proof.Machine.execWrDma0dah w d s
  | .rdDma0sz w => Sys2Proof.Machine.execRdDma0sz w s
  | .wrDma0sz w d => Sys2Proof.Machine.execWrDma0sz w d s
  | .rdDma1ctl w => Sys2Proof.Machine.execRdDma1ctl w s
  | .wrDma1ctl w d => Sys2Proof.Machine.execWrDma1ctl w d s
  | .rdDma1sal w => Sys2Proof.Machine.execRdDma1sal w s
  | .wrDma1sal w d => Sys2Proof.Machine.execWrDma1sal w d s
  | .rdDma1sah w => Sys2Proof.Machine.execRdDma1sah w s
  | .wrDma1sah w d => Sys2Proof.Machine.execWrDma1sah w d s
  | .rdDma1dal w => Sys2Proof.Machine.execRdDma1dal w s
  | .wrDma1dal w d => Sys2Proof.Machine.execWrDma1dal w d s
  | .rdDma1dah w => Sys2Proof.Machine.execRdDma1dah w s
  | .wrDma1dah w d => Sys2Proof.Machine.execWrDma1dah w d s
  | .rdDma1sz w => Sys2Proof.Machine.execRdDma1sz w s
  | .wrDma1sz w d => Sys2Proof.Machine.execWrDma1sz w d s
  | .rdDma2ctl w => Sys2Proof.Machine.execRdDma2ctl w s
  | .wrDma2ctl w d => Sys2Proof.Machine.execWrDma2ctl w d s
  | .rdDma2sal w => Sys2Proof.Machine.execRdDma2sal w s
  | .wrDma2sal w d => Sys2Proof.Machine.execWrDma2sal w d s
  | .rdDma2sah w => Sys2Proof.Machine.execRdDma2sah w s
  | .wrDma2sah w d => Sys2Proof.Machine.execWrDma2sah w d s
  | .rdDma2dal w => Sys2Proof.Machine.execRdDma2dal w s
  | .wrDma2dal w d => Sys2Proof.Machine.execWrDma2dal w d s
  | .rdDma2dah w => Sys2Proof.Machine.execRdDma2dah w s
  | .wrDma2dah w d => Sys2Proof.Machine.execWrDma2dah w d s
  | .rdDma2sz w => Sys2Proof.Machine.execRdDma2sz w s
  | .wrDma2sz w d => Sys2Proof.Machine.execWrDma2sz w d s
  | .fire p k => Sys2Proof.Machine.execFire p k s
  | .bind t p k => Sys2Proof.Machine.execBind t p k s
  | .step => Sys2Proof.Machine.execStep s
  | .reset => Sys2Proof.Machine.execReset s

end Sys2Proof.Machine
end

