-- ==== Sys2Proof/Machine/Fetch.lean ====
section
/-! DEFINITION. How a presented operation reaches the block: the surroundings' part of an arrival, the register port that
forms an operation word from a bus address, and what each decoded word does. -/

namespace Sys2Proof.Machine

/-- The arrival leaves the input list, its draws become the ones in progress, and the stores other bus masters made
before it land (R56; log 6, 7, 9). A store to an address of the register window is a store to the bus memory alone and no
register write, where the spec leaves that to the platform (R42, D26; DESIGN CHOICE, log 18). -/
def State.arrive (s : State) (a : Arrival) (rest : List Arrival) : State :=
  { s with input := rest, draws := a.draws, mem := storeAll s.mem a.stores }

/-- What the port makes of a request. -/
inductive Formed where
  | op (o : Op)
  | outside (addr : Addr)
deriving DecidableEq, Repr

/-- The word of a register access at an offset: KIND 000 or 001, X the offset (R64). -/
def accessWord (isWrite : Bool) (off : BitVec 7) : BitVec 10 :=
  (if isWrite then 0b001#3 else 0b000#3) ++ off

/-- `off = address - P_BASE` (R42); an address below P_BASE, or an offset of 0x80 or more, is outside the decoded range
"before any word is formed" (R65). The comparison with P_BASE is of numbers (DEDUCED, log 15). -/
def formOp (base : Addr) : Request → Formed
  | .op o => .op o
  | .access isWrite addr width data =>
    if addr < base then .outside addr
    else if 0x80#20 ≤ addr - base then .outside addr
    else .op { bareOp (accessWord isWrite ((addr - base).setWidth 7)) with width := width, data := data }

/-- What a decoded word does (R71): the operation it names, the fault it raises, or a refusal that ends the run
(R147; DEDUCED, log 16). -/
def State.perform (s : State) : Decoded → Host.Outcome State Fault Refusal
  | .instr i => exec i s
  | .configAddr x => .next (s.raise (.configAddr (s.busAddr x)))
  | .bindRange t => .next (s.raise (.bindRange t))
  | .reserved w => .refused (.reservedOp w)

/-- A request at the block's ports. -/
def State.serve (s : State) (r : Request) : Host.Outcome State Fault Refusal :=
  match formOp s.platform.base r with
  | .outside addr => .next (s.raise (.configAddr addr))
  | .op o => s.perform (decode o)

/-- The arrival that presents a bare operation word: every draw false, no store of another master (log 14). -/
def bareArrival (w : BitVec 10) : Arrival :=
  { request := .op (bareOp w), draws := { query := false, readFails := false, writeFails := false }, stores := [] }

end Sys2Proof.Machine
end

