-- ==== Sys2Proof/Machine/Step.lean ====
section
/-! DEFINITION. One step of the block: the next presented operation, whole and atomic (spec/00_scope.md R8,
spec/20_memory.md R54). -/

namespace Sys2Proof.Machine

/-- A faulted block accepts nothing (R144); with nothing presented the block does nothing (R166); otherwise the next
presented operation is served. -/
def step (s : State) : Host.Outcome State Fault Refusal :=
  match s.fault, s.input with
  | some m, _ => .fault (.faulted m)
  | none, [] => .fault .noOperation
  | none, a :: rest => (s.arrive a rest).serve a.request

/-- `s` with the operation word `w` presented next, the operands beside it zero (log 14). A number above 0x3FF is no
operation word and nothing is presented. -/
def State.withFetchWord (s : State) (_nbits w : Nat) : State :=
  if w < 1024 then { s with input := bareArrival (BitVec.ofNat 10 w) :: s.input } else { s with input := [] }

end Sys2Proof.Machine
end

