-- ==== Sys2Proof/Safety.lean ====
section
/-! DEFINITION. The terms claims use: the invariants the spec states of the block, the legal vector values, what RELEASE
leaves said in one formula, the writes that may leave a stale owner, and the successful end of a run. -/

namespace Sys2Proof.Machine

/-- The legal values of DMAIV (spec/10_state.md R23). -/
def legalVector (pv : Word16) : Bool := pv == 0x0000#16 || pv == 0x0002#16 || pv == 0x0004#16 || pv == 0x0006#16

/-- R33: `s.pv` is one of 0, 2, 4, 6, and `s.irq = 1` iff `s.pv != 0`. -/
def State.arbiterOk (s : State) : Bool := legalVector s.pv && (s.irq == (s.pv != 0x0000#16))

/-- R36: `size <= total`. R98, R107: a count of 0 only with a reload value of 0, since a block's end reloads `total` and
only a size write of 0 makes it 0. R28: the fields that only a DMAnCTL write changes equal the decode of `cw`. -/
def Channel.ok (c : Channel) : Bool :=
  decide (c.size ≤ c.total) && (c.size != 0#16 || c.total == 0#16) && (c.mode == c.cw.extractLsb' 12 3) &&
  (c.dstStep == stepOfCode (c.cw.extractLsb' 10 2)) && (c.srcStep == stepOfCode (c.cw.extractLsb' 8 2)) &&
  (c.dstByte == c.cw.getLsbD 7) && (c.srcByte == c.cw.getLsbD 6) && (c.level == c.cw.getLsbD 5) && (c.ie == c.cw.getLsbD 2)

/-- The invariants of R28, R33, R36 and R98 with the canonical form of the memory. -/
def State.ok (s : State) : Bool :=
  s.arbiterOk && s.ch0.ok && s.ch1.ok && s.ch2.ok && Mem.wf s.mem

/-- The level of the last `setInterruptLine` of a trace, `b` if there is none. -/
def lineLevel (b : Bool) : List Output → Bool
  | [] => b
  | .setLine _ _ asserted :: rest => lineLevel asserted rest
  | .readData _ :: rest | .schedule _ _ :: rest | .query _ _ :: rest | .registerDMA _ :: rest | .busRead _ :: rest
  | .busWrite _ _ :: rest => lineLevel b rest

/-- R32: `s.irq` is "the level the block last drove on its interrupt line" (low before the first drive). -/
def State.lineOk (s : State) : Bool := s.irq == lineLevel false s.out

/-- The lowest-index channel with `ifg` and `ie`. -/
def State.lowestWaiting (s : State) : Option ChIdx :=
  [ChIdx.c0, ChIdx.c1, ChIdx.c2].find? fun n => (s.ch n).ifg && (s.ch n).ie

/-- The vector value of an owner, 0 for none (R76). -/
def vectorValue : Option ChIdx → Word16
  | none => 0x0000#16
  | some .c0 => 0x0002#16
  | some .c1 => 0x0004#16
  | some .c2 => 0x0006#16

/-- The priority invariant of R119, C6: the vector names the lowest-index channel with flag and interrupt enable. -/
def State.priorityOk (s : State) : Bool := s.pv == vectorValue s.lowestWaiting

/-- The writes R119 excludes: a DMAnCTL write that clears bit 2 of a channel whose `ifg` is 1, or that clears bit 3 of
the owner while its `ie` is 0 (spec/93 K-STALE). -/
def State.staleWrite (s : State) (n : ChIdx) (v : Word16) : Bool :=
  (!v.getLsbD 2 && (s.ch n).ifg) || (!v.getLsbD 3 && s.pv == vectorValue (some n) && !(s.ch n).ie)

/-- Is the operation one of the writes R119 excludes? -/
def State.staleInstr (s : State) : Instr → Bool
  | .wrDma0ctl _ d => s.staleWrite .c0 d
  | .wrDma1ctl _ d => s.staleWrite .c1 d
  | .wrDma2ctl _ d => s.staleWrite .c2 d
  | _ => false

/-- The interrupt line event the block emits (R116). -/
def State.lineEvent (s : State) (b : Bool) : Output := .setLine s.platform.vector s.platform.source b

/-- A channel after RELEASE (R114): the owner's flag and control-shadow bit 3 are cleared, any other channel is kept. -/
def State.releasedCh (s : State) (n : ChIdx) : Channel :=
  if s.pv = vectorValue (some n) then { s.ch n with ifg := false, cw := (s.ch n).cw &&& 0xFFF7#16 } else s.ch n

/-- The channel the rescan of RELEASE finds: the first in index order with `ie` and `ifg`. -/
def State.nextOwner (s : State) : Option ChIdx :=
  [ChIdx.c0, ChIdx.c1, ChIdx.c2].find? fun n => (s.releasedCh n).ie && (s.releasedCh n).ifg

/-- RELEASE (R114) in one formula, for a legal vector: owner's flag cleared, line deasserted, and the vector handed to the
next waiting channel with the line asserted again. -/
def State.released (s : State) : State :=
  { s with
    ch0 := s.releasedCh .c0
    ch1 := s.releasedCh .c1
    ch2 := s.releasedCh .c2
    pv := vectorValue s.nextOwner
    irq := s.nextOwner.isSome
    out := s.out ++ (s.lineEvent false :: if s.nextOwner.isSome then [s.lineEvent true] else []) }

/-- The vector after channel i asks for it (R113): a free vector, or one of a higher index, goes to i. -/
def vectorAfterAcquire (pv : Word16) (i : ChIdx) : Word16 :=
  if pv = 0x0000#16 ∨ vectorValue (some i) < pv then vectorValue (some i) else pv

/-- A cursor moved by a step of -1, 0 or +1, modulo 2^20 (R106). -/
def movedCursor (a : Addr) : Step → Nat
  | .minusOne => (a.toNat + 0xFFFFF) % 0x100000
  | .zero => a.toNat
  | .plusOne => (a.toNat + 1) % 0x100000

/-- Does an address lie in `[P_BASE, P_BASE + 0x40)`, taken modulo 2^20 (R53)? -/
def State.ownWindow (s : State) (a : Addr) : Bool :=
  decide ((a.toNat + 0x100000 - s.platform.base.toNat) % 0x100000 < 0x40)

/-- The steps a DMAnCTL write schedules for its own channel (R85, R86): one when it arms a bound channel whose provider
answers true, and one on a software request with trigger select 0. -/
def State.scheduledBy (s : State) (n : ChIdx) (v : Word16) : Nat :=
  (if (s.ch n).en = false ∧ v.getLsbD 4 = true ∧ (s.ch n).bound.isSome ∧ s.draws.query = true then 1 else 0) +
  (if v.getLsbD 0 = true ∧ s.tsel n = 0#5 then 1 else 0)

/-- The query an arming write makes (R85): one, when the channel is bound. -/
def State.queriedBy (s : State) (n : ChIdx) (v : Word16) : List Output :=
  match (s.ch n).bound with
  | some t => if (s.ch n).en = false ∧ v.getLsbD 4 = true then [.query t.provider t.index] else []
  | none => []

/-- D29: a run has ended successfully when no operation and no scheduled step is left and there is no fault mark. -/
def State.successfulEnd (s : State) : Bool := s.input.isEmpty && s.pending.isEmpty && s.fault.isNone

end Sys2Proof.Machine
end

