-- ==== Sys2Proof/Certificates/Slice0/Obligations.lean ====
section
/-! DEFINITION. The statements about the block, from the numbered rules of spec/, for the provers. -/

open Sys2Proof Sys2Proof.Machine

/-! ### Encoding -/

/-- Decoding the encoding of a well-formed operation gives it back, with every operand (R63 to R71). -/
def Obligations.DecodeOfEncode : Prop :=
  ∀ i : Instr, i.wellFormed = true → decode (encode i) = .instr i

/-- A word that decodes to an operation is that operation's own word, and the operation is well formed. -/
def Obligations.DecodedWordEncodesBack : Prop :=
  ∀ (o : Op) (i : Instr), decode o = .instr i → i.wellFormed = true ∧ (encode i).word = o.word

/-- The sixteen words of spec/95_test_vectors.md L2.5, whatever operands stand beside the word. -/
def Obligations.SpecVectorWordsDecode : Prop :=
  ∀ (w : Width) (d : Word16) (p : Provider) (k : Byte),
    decode ⟨0x00E#10, w, d, p, k⟩ = .instr (.rdDmaiv w) ∧
    decode ⟨0x0B0#10, w, d, p, k⟩ = .instr (.wrDma2ctl w d) ∧
    decode ⟨0x03A#10, w, d, p, k⟩ = .instr (.rdDma2sz w) ∧
    decode ⟨0x100#10, w, d, p, k⟩ = .instr (.fire p k) ∧
    decode ⟨0x19F#10, w, d, p, k⟩ = .instr (.bind 31#7 p k) ∧
    decode ⟨0x1A0#10, w, d, p, k⟩ = .bindRange 32#7 ∧
    decode ⟨0x200#10, w, d, p, k⟩ = .instr .step ∧
    decode ⟨0x280#10, w, d, p, k⟩ = .instr .reset ∧
    decode ⟨0x101#10, w, d, p, k⟩ = .reserved 0x101#10 ∧
    decode ⟨0x281#10, w, d, p, k⟩ = .reserved 0x281#10 ∧
    decode ⟨0x300#10, w, d, p, k⟩ = .reserved 0x300#10 ∧
    decode ⟨0x37F#10, w, d, p, k⟩ = .reserved 0x37F#10 ∧
    decode ⟨0x380#10, w, d, p, k⟩ = .reserved 0x380#10 ∧
    decode ⟨0x3FF#10, w, d, p, k⟩ = .reserved 0x3FF#10 ∧
    decode ⟨0x00C#10, w, d, p, k⟩ = .configAddr 0x0C#7 ∧
    decode ⟨0x0CE#10, w, d, p, k⟩ = .configAddr 0x4E#7

/-- R71: the classification of every operation word by KIND and X, in the rule's order; a word of no other class names an
operation, the one it is the word of. -/
def Obligations.DecoderClassifiesEveryWord : Prop :=
  ∀ o : Op,
    let kind := o.word.toNat / 128
    let x := o.word.toNat % 128
    if kind = 6 ∨ kind = 7 then decode o = .reserved o.word
    else if (kind = 2 ∨ kind = 4 ∨ kind = 5) ∧ x ≠ 0 then decode o = .reserved o.word
    else if (kind = 0 ∨ kind = 1) ∧
        (x % 2 = 1 ∨ x = 0x0A ∨ x = 0x0C ∨ ((x % 16 = 0xC ∨ x % 16 = 0xE) ∧ x / 16 % 4 ≠ 0) ∨ x ≥ 0x40) then
      decode o = .configAddr (BitVec.ofNat 7 x)
    else if kind = 3 ∧ x ≥ 32 then decode o = .bindRange (BitVec.ofNat 7 x)
    else ∃ i, decode o = .instr i ∧ (encode i).word = o.word

/-! ### One step -/

/-- A step of a state without a fault mark takes the next arrival and, when its word decodes to an operation, is `exec`
of that operation on the state the arrival leaves: the arrival is off the input list, its draws are in force, and the
stores of other bus masters have landed. That these arrive so is the model's choice (log 1, 6, 7, 9). -/
def Obligations.StepRunsDecodedOperation : Prop :=
  ∀ (s : State) (o : Op) (dr : Draws) (st : List (Addr × Byte)) (rest : List Arrival) (i : Instr),
    s.fault = none → s.input = ⟨.op o, dr, st⟩ :: rest → decode o = .instr i →
    step s = exec i { s with input := rest, draws := dr, mem := storeAll s.mem st }

/-- R42, R123: a register access by its bus address runs the operation of the register at `address - P_BASE`.
What the arrival leaves (the rest of the input list, its draws in force, other masters' stores landed) is the model's choice
(log 1, 6, 7, 9). -/
def Obligations.AccessByAddressReachesRegister : Prop :=
  ∀ (s : State) (isWrite : Bool) (addr : Addr) (w : Width) (d : Word16) (dr : Draws) (st : List (Addr × Byte))
    (rest : List Arrival) (off : BitVec 7) (r : Reg),
    s.fault = none → s.input = ⟨.access isWrite addr w d, dr, st⟩ :: rest →
    addr.toNat = s.platform.base.toNat + off.toNat → regAt off = some r →
    step s = exec (if isWrite then .wr r w d else .rd r w)
      { s with input := rest, draws := dr, mem := storeAll s.mem st }

/-- R44, R121, R65: an access at an offset outside the 24 of the map, by word or by address, read or write, of any width,
raises CONFIG_ADDR with its bus address and changes no state. What the arrival leaves (input, draws, stores) is the model's
choice (log 1, 6, 7, 9); that an address below P_BASE is told by comparing numbers is its inference (log 15). -/
def Obligations.UndecodedAccessRaisesConfigAddr : Prop :=
  (∀ (s : State) (isWrite : Bool) (off : BitVec 7) (w : Width) (d : Word16) (p : Provider) (k : Byte) (dr : Draws)
    (st : List (Addr × Byte)) (rest : List Arrival),
    s.fault = none →
    s.input = ⟨.op ⟨(if isWrite then 0b001#3 else 0b000#3) ++ off, w, d, p, k⟩, dr, st⟩ :: rest →
    off.toNat ∉ [0x00, 0x02, 0x04, 0x06, 0x08, 0x0E] →
    (∀ n r : Nat, n < 3 → r ∈ [0x0, 0x2, 0x4, 0x6, 0x8, 0xA] → off.toNat ≠ 0x10 * (n + 1) + r) →
    step s = .next { s with
      input := rest, draws := dr, mem := storeAll s.mem st
      fault := some (.configAddr (s.platform.base + off.setWidth 20)) }) ∧
  (∀ (s : State) (isWrite : Bool) (addr : Addr) (w : Width) (d : Word16) (dr : Draws) (st : List (Addr × Byte))
    (rest : List Arrival),
    s.fault = none → s.input = ⟨.access isWrite addr w d, dr, st⟩ :: rest →
    (addr.toNat < s.platform.base.toNat ∨
      (addr.toNat - s.platform.base.toNat ∉ [0x00, 0x02, 0x04, 0x06, 0x08, 0x0E] ∧
      ∀ n r : Nat, n < 3 → r ∈ [0x0, 0x2, 0x4, 0x6, 0x8, 0xA] →
        addr.toNat - s.platform.base.toNat ≠ 0x10 * (n + 1) + r)) →
    step s = .next { s with
      input := rest, draws := dr, mem := storeAll s.mem st, fault := some (.configAddr addr) })

/-- R122, R43: a byte access to a decoded register, read or write, raises ACCESS_WIDTH with the register's bus address and
the width, and changes no state. -/
def Obligations.ByteAccessRaisesAccessWidth : Prop :=
  ∀ (s : State) (off : BitVec 7) (r : Reg) (d : Word16), s.fault = none → regAt off = some r →
    exec (.rd r .byte) s =
      .next { s with fault := some (.accessWidth (s.platform.base + off.setWidth 20) .byte) } ∧
    exec (.wr r .byte d) s =
      .next { s with fault := some (.accessWidth (s.platform.base + off.setWidth 20) .byte) }

/-- R144: a state with a fault mark accepts no operation, neither from its input list nor any of the table's. -/
def Obligations.FaultedStateAcceptsNothing : Prop :=
  ∀ (s : State) (m : FaultMark), s.fault = some m →
    step s = .fault (.faulted m) ∧ ∀ i : Instr, exec i s = .fault (.faulted m)

/-- R147: a word with a reserved KIND, or with X ≠ 0 where X is unused, is refused. -/
def Obligations.ReservedWordsAreRefused : Prop :=
  ∀ (s : State) (o : Op) (dr : Draws) (st : List (Addr × Byte)) (rest : List Arrival),
    s.fault = none → s.input = ⟨.op o, dr, st⟩ :: rest →
    (o.word.toNat / 128 = 6 ∨ o.word.toNat / 128 = 7 ∨
      ((o.word.toNat / 128 = 2 ∨ o.word.toNat / 128 = 4 ∨ o.word.toNat / 128 = 5) ∧ o.word.toNat % 128 ≠ 0)) →
    step s = .refused (.reservedOp o.word)

/-- R140, R71: BIND with an id above 31 raises BIND_RANGE with the id, whether `exec` is asked or the word arrives.
What the arrival leaves (input, draws, stores) is the model's choice (log 1, 6, 7, 9). -/
def Obligations.BindAboveTableRaisesBindRange : Prop :=
  ∀ (s : State) (t : BitVec 7) (p : Provider) (k : Byte), s.fault = none → 31 < t.toNat →
    exec (.bind t p k) s = .next { s with fault := some (.bindRange t) } ∧
    ∀ (w : Width) (d : Word16) (dr : Draws) (st : List (Addr × Byte)) (rest : List Arrival),
      s.input = ⟨.op ⟨0b011#3 ++ t, w, d, p, k⟩, dr, st⟩ :: rest →
      step s = .next { s with
        input := rest, draws := dr, mem := storeAll s.mem st, fault := some (.bindRange t) }

/-- STEP is not enabled on an empty queue (R108), and with nothing presented the block does nothing (R166). The names of
the two stops are the model's (log 3). -/
def Obligations.NothingToDoStops : Prop :=
  (∀ s : State, s.fault = none → s.pending = [] → exec .step s = .fault .stepNotEnabled) ∧
  (∀ s : State, s.fault = none → s.input = [] → step s = .fault .noOperation)

/-! ### Global registers -/

/-- RD_DMACTL0 to RD_DMACTL4 (R127 to R131): the raw shadow is returned and nothing else happens. -/
def Obligations.ControlShadowReads : Prop :=
  (∀ w, (encode (.rdDmactl0 w)).word = 0x000#10 ∧ (encode (.rdDmactl1 w)).word = 0x002#10 ∧
    (encode (.rdDmactl2 w)).word = 0x004#10 ∧ (encode (.rdDmactl3 w)).word = 0x006#10 ∧
    (encode (.rdDmactl4 w)).word = 0x008#10) ∧
  ∀ s : State, s.fault = none →
    exec (.rdDmactl0 .word) s = .next { s with out := s.out ++ [.readData s.ctl0] } ∧
    exec (.rdDmactl1 .word) s = .next { s with out := s.out ++ [.readData s.ctl1] } ∧
    exec (.rdDmactl2 .word) s = .next { s with out := s.out ++ [.readData s.ctl2] } ∧
    exec (.rdDmactl3 .word) s = .next { s with out := s.out ++ [.readData s.ctl3] } ∧
    exec (.rdDmactl4 .word) s = .next { s with out := s.out ++ [.readData s.ctl4] }

/-- WR_DMACTL2 to WR_DMACTL4 (R132 to R134): the shadow is stored and nothing else happens. -/
def Obligations.ReservedControlWrites : Prop :=
  (∀ w d, (encode (.wrDmactl2 w d)).word = 0x084#10 ∧ (encode (.wrDmactl3 w d)).word = 0x086#10 ∧
    (encode (.wrDmactl4 w d)).word = 0x088#10) ∧
  ∀ (s : State) (d : Word16), s.fault = none →
    exec (.wrDmactl2 .word d) s = .next { s with ctl2 := d } ∧
    exec (.wrDmactl3 .word d) s = .next { s with ctl3 := d } ∧
    exec (.wrDmactl4 .word d) s = .next { s with ctl4 := d }

/-- WR_DMACTL0 (R125), WR_DMACTL1 (R126): the shadow is stored and the channels it selects for take a copy of the table
entry at their select field (R124); no other state changes and nothing is driven. -/
def Obligations.TriggerSelectWritesRebind : Prop :=
  (∀ w d, (encode (.wrDmactl0 w d)).word = 0x080#10 ∧ (encode (.wrDmactl1 w d)).word = 0x082#10) ∧
  ∀ (s : State) (d : Word16), s.fault = none →
    exec (.wrDmactl0 .word d) s = .next { s with
      ctl0 := d
      ch0 := { s.ch0 with bound := s.tableAt (BitVec.ofNat 5 (d.toNat % 32)) }
      ch1 := { s.ch1 with bound := s.tableAt (BitVec.ofNat 5 (d.toNat / 256 % 32)) } } ∧
    exec (.wrDmactl1 .word d) s = .next { s with
      ctl1 := d
      ch2 := { s.ch2 with bound := s.tableAt (BitVec.ofNat 5 (d.toNat % 32)) } }

/-! ### Vector register and arbiter -/

/-- R113: ACQUIRE(i) gives a free vector to channel i and asserts the line, takes the vector from a channel of a higher
index without a line event, and is a no-op otherwise; it touches nothing else. -/
def Obligations.AcquireByPriority : Prop :=
  ∀ (s : State) (i : ChIdx), legalVector s.pv = true →
    s.acquire i = { s with
      pv := vectorAfterAcquire s.pv i
      irq := s.irq || (s.pv == 0x0000#16)
      out := s.out ++ (if s.pv = 0x0000#16 then [s.lineEvent true] else []) }

/-- R114: RELEASE in one formula, for every legal value of the vector, 0 among them. -/
def Obligations.ReleaseHandsVectorOn : Prop :=
  ∀ s : State, legalVector s.pv = true → s.release = s.released

/-- RD_DMAIV (R135): the vector's value is returned, then RELEASE runs. That the value stands in the output trace
before RELEASE's line events is the model's choice (log 10). -/
def Obligations.ReadDmaivReturnsThenReleases : Prop :=
  (∀ w, (encode (.rdDmaiv w)).word = 0x00E#10) ∧
  ∀ s : State, s.fault = none → legalVector s.pv = true →
    exec (.rdDmaiv .word) s = .next ({ s with out := s.out ++ [.readData s.pv] } : State).released

/-- WR_DMAIV (R136): RELEASE runs; the written value is not stored and does not matter. -/
def Obligations.WriteDmaivReleases : Prop :=
  (∀ w d, (encode (.wrDmaiv w d)).word = 0x08E#10) ∧
  ∀ (s : State) (d : Word16), s.fault = none → legalVector s.pv = true →
    exec (.wrDmaiv .word d) s = .next s.released

/-- C3: reading DMAIV twice returns the owner's vector, then 0, when no channel but the owner waits; afterwards no channel
owns the vector and the line is low. The place of each value in the output trace, before the read's line event, is the
model's choice (log 10). -/
def Obligations.SecondVectorReadIsZero : Prop :=
  ∀ (s : State) (n : ChIdx), s.fault = none → s.pv = vectorValue (some n) →
    (∀ m, m ≠ n → ((s.ch m).ie && (s.ch m).ifg) = false) →
    ∃ t u, exec (.rdDmaiv .word) s = .next t ∧ exec (.rdDmaiv .word) t = .next u ∧
      u.out = s.out ++ [.readData (vectorValue (some n)), s.lineEvent false, .readData 0x0000#16, s.lineEvent false] ∧
      u.pv = 0x0000#16 ∧ u.irq = false

/-! ### Channel registers -/

/-- RD_DMAnCTL (R88, R77), n = 0, 1, 2: every bit of the stored word, bit 3 replaced by the live flag. -/
def Obligations.ControlReadMergesLiveFlag : Prop :=
  (∀ w, (encode (.rdDma0ctl w)).word = 0x010#10 ∧ (encode (.rdDma1ctl w)).word = 0x020#10 ∧
    (encode (.rdDma2ctl w)).word = 0x030#10) ∧
  ∀ (s : State) (n : ChIdx), s.fault = none →
    ∃ v : Word16, exec (.rd (.channel n .ctl) .word) s = .next { s with out := s.out ++ [.readData v] } ∧
      ∀ b, v.getLsbD b = if b = 3 then (s.ch n).ifg else (s.ch n).cw.getLsbD b

/-- RD_DMAnSAL, RD_DMAnSAH, RD_DMAnDAL, RD_DMAnDAH (R94 to R97), n = 0, 1, 2: the written base, low 16 bits or bits 19:16
zero-extended, never the cursor. -/
def Obligations.AddressReadsReturnBase : Prop :=
  (∀ w, (encode (.rdDma0sal w)).word = 0x012#10 ∧ (encode (.rdDma1sal w)).word = 0x022#10 ∧
    (encode (.rdDma2sal w)).word = 0x032#10 ∧ (encode (.rdDma0sah w)).word = 0x014#10 ∧
    (encode (.rdDma1sah w)).word = 0x024#10 ∧ (encode (.rdDma2sah w)).word = 0x034#10 ∧
    (encode (.rdDma0dal w)).word = 0x016#10 ∧ (encode (.rdDma1dal w)).word = 0x026#10 ∧
    (encode (.rdDma2dal w)).word = 0x036#10 ∧ (encode (.rdDma0dah w)).word = 0x018#10 ∧
    (encode (.rdDma1dah w)).word = 0x028#10 ∧ (encode (.rdDma2dah w)).word = 0x038#10) ∧
  ∀ (s : State) (n : ChIdx), s.fault = none →
    exec (.rd (.channel n .sal) .word) s =
      .next { s with out := s.out ++ [.readData (BitVec.ofNat 16 ((s.ch n).sa.toNat % 0x10000))] } ∧
    exec (.rd (.channel n .sah) .word) s =
      .next { s with out := s.out ++ [.readData (BitVec.ofNat 16 ((s.ch n).sa.toNat / 0x10000))] } ∧
    exec (.rd (.channel n .dal) .word) s =
      .next { s with out := s.out ++ [.readData (BitVec.ofNat 16 ((s.ch n).da.toNat % 0x10000))] } ∧
    exec (.rd (.channel n .dah) .word) s =
      .next { s with out := s.out ++ [.readData (BitVec.ofNat 16 ((s.ch n).da.toNat / 0x10000))] }

/-- RD_DMAnSZ (R98), n = 0, 1, 2: the live remaining count. -/
def Obligations.SizeReadReturnsLiveCount : Prop :=
  (∀ w, (encode (.rdDma0sz w)).word = 0x01A#10 ∧ (encode (.rdDma1sz w)).word = 0x02A#10 ∧
    (encode (.rdDma2sz w)).word = 0x03A#10) ∧
  ∀ (s : State) (n : ChIdx), s.fault = none →
    exec (.rd (.channel n .sz) .word) s = .next { s with out := s.out ++ [.readData (s.ch n).size] }

/-- WR_DMAnSAL, WR_DMAnSAH (R89, R90), n = 0, 1, 2: bits 15:0, or bits 19:16 from data[3:0], of the source base are
replaced and the source cursor is reseeded with the new base; nothing else changes. -/
def Obligations.SourceWritesReseedCursor : Prop :=
  (∀ w d, (encode (.wrDma0sal w d)).word = 0x092#10 ∧ (encode (.wrDma1sal w d)).word = 0x0A2#10 ∧
    (encode (.wrDma2sal w d)).word = 0x0B2#10 ∧ (encode (.wrDma0sah w d)).word = 0x094#10 ∧
    (encode (.wrDma1sah w d)).word = 0x0A4#10 ∧ (encode (.wrDma2sah w d)).word = 0x0B4#10) ∧
  ∀ (s : State) (n : ChIdx) (d : Word16), s.fault = none →
    (∃ a : Addr, a.toNat = (s.ch n).sa.toNat / 0x10000 * 0x10000 + d.toNat ∧
      exec (.wr (.channel n .sal) .word d) s = .next (s.setCh n { s.ch n with sa := a, cs := a })) ∧
    (∃ a : Addr, a.toNat = d.toNat % 16 * 0x10000 + (s.ch n).sa.toNat % 0x10000 ∧
      exec (.wr (.channel n .sah) .word d) s = .next (s.setCh n { s.ch n with sa := a, cs := a }))

/-- WR_DMAnDAL, WR_DMAnDAH (R91, R92), n = 0, 1, 2: the same for the destination base and cursor. -/
def Obligations.DestinationWritesReseedCursor : Prop :=
  (∀ w d, (encode (.wrDma0dal w d)).word = 0x096#10 ∧ (encode (.wrDma1dal w d)).word = 0x0A6#10 ∧
    (encode (.wrDma2dal w d)).word = 0x0B6#10 ∧ (encode (.wrDma0dah w d)).word = 0x098#10 ∧
    (encode (.wrDma1dah w d)).word = 0x0A8#10 ∧ (encode (.wrDma2dah w d)).word = 0x0B8#10) ∧
  ∀ (s : State) (n : ChIdx) (d : Word16), s.fault = none →
    (∃ a : Addr, a.toNat = (s.ch n).da.toNat / 0x10000 * 0x10000 + d.toNat ∧
      exec (.wr (.channel n .dal) .word d) s = .next (s.setCh n { s.ch n with da := a, cd := a })) ∧
    (∃ a : Addr, a.toNat = d.toNat % 16 * 0x10000 + (s.ch n).da.toNat % 0x10000 ∧
      exec (.wr (.channel n .dah) .word d) s = .next (s.setCh n { s.ch n with da := a, cd := a }))

/-- WR_DMAnSZ (R93), n = 0, 1, 2: both the remaining count and the reload value are the written data; after a write of 0
a transfer step of the channel at the head of the queue, while enabled, raises ZERO_SIZE (any other queue: R110). That this
STEP leaves its queue entry is the model's choice (log 2). -/
def Obligations.SizeWriteSetsCountAndReload : Prop :=
  (∀ w d, (encode (.wrDma0sz w d)).word = 0x09A#10 ∧ (encode (.wrDma1sz w d)).word = 0x0AA#10 ∧
    (encode (.wrDma2sz w d)).word = 0x0BA#10) ∧
  ∀ (s : State) (n : ChIdx), s.fault = none →
    (∀ d, exec (.wr (.channel n .sz) .word d) s = .next (s.setCh n { s.ch n with size := d, total := d })) ∧
    ∀ rest, s.pending = n :: rest → (s.ch n).en = true →
      ∃ t, exec (.wr (.channel n .sz) .word 0x0000#16) s = .next t ∧
        exec .step t = .next { t with fault := some (.zeroSize n) }

/-- R50: writing the same value twice to DMACTL0 to DMACTL4, DMAnSAL, DMAnSAH, DMAnDAL, DMAnDAH or DMAnSZ leaves the same
state as writing it once. -/
def Obligations.RepeatedWriteIsIdempotent : Prop :=
  ∀ (s : State) (r : Reg) (d : Word16), s.fault = none → r ≠ .global .iv → (∀ n, r ≠ .channel n .ctl) →
    ∃ t, exec (.wr r .word d) s = .next t ∧ exec (.wr r .word d) t = .next t

/-- WR_DMAnCTL (R87, R82), n = 0, 1, 2: it runs, the channel's word and decoded fields are the written ones (bit positions
R24, codes R72, R73), its bases, cursors, counts and binding are kept (R103), and no other channel, register, table entry,
byte of memory or fault mark changes (R100). -/
def Obligations.ControlWriteStoresAndDecodes : Prop :=
  (∀ w d, (encode (.wrDma0ctl w d)).word = 0x090#10 ∧ (encode (.wrDma1ctl w d)).word = 0x0A0#10 ∧
    (encode (.wrDma2ctl w d)).word = 0x0B0#10) ∧
  ∀ (s : State) (n : ChIdx) (v : Word16), s.fault = none →
    ∃ t, exec (.wr (.channel n .ctl) .word v) s = .next t ∧
      t.ch n = { s.ch n with
        cw := v
        mode := BitVec.ofNat 3 (v.toNat / 0x1000 % 8)
        dstStep := (match v.toNat / 0x400 % 4 with | 2 => .minusOne | 3 => .plusOne | _ => .zero)
        srcStep := (match v.toNat / 0x100 % 4 with | 2 => .minusOne | 3 => .plusOne | _ => .zero)
        dstByte := v.getLsbD 7
        srcByte := v.getLsbD 6
        level := v.getLsbD 5
        en := v.getLsbD 4
        ifg := v.getLsbD 3
        ie := v.getLsbD 2 } ∧
      (∀ m, m ≠ n → t.ch m = s.ch m) ∧
      t = { s with ch0 := t.ch0, ch1 := t.ch1, ch2 := t.ch2, pv := t.pv, irq := t.irq, pending := t.pending, out := t.out }

/-- WR_DMAnCTL, its arbiter part (R83, R84): writing bit 3 = 0 while the old `ie` was 1 releases the vector this channel
owns to the lowest-index other channel that waits, writing bits 3 and 2 both 1 acquires it, and any other write leaves
vector and line alone. -/
def Obligations.ControlWriteDrivesArbiter : Prop :=
  ∀ (s : State) (n : ChIdx) (v : Word16), s.fault = none → legalVector s.pv = true →
    ∃ t, exec (.wr (.channel n .ctl) .word v) s = .next t ∧
      if v.getLsbD 3 = false ∧ (s.ch n).ie = true ∧ s.pv = vectorValue (some n) then
        t.pv = vectorValue t.lowestWaiting ∧ t.irq = t.lowestWaiting.isSome
      else if v.getLsbD 3 = true ∧ v.getLsbD 2 = true then
        t.pv = vectorAfterAcquire s.pv n ∧ t.irq = (s.irq || (s.pv == 0x0000#16))
      else t.pv = s.pv ∧ t.irq = s.irq

/-- WR_DMAnCTL, its scheduling part (R85, R86, R175) and the order of its outputs (R154): line events, the arming query,
then one `Schedule(n)` with delay 0 for each step appended to the queue. -/
def Obligations.ControlWriteSchedulesSteps : Prop :=
  ∀ (s : State) (n : ChIdx) (v : Word16), s.fault = none → legalVector s.pv = true →
    ∃ t, exec (.wr (.channel n .ctl) .word v) s = .next t ∧
      t.pending = s.pending ++ List.replicate (s.scheduledBy n v) n ∧
      t.out = s.out ++
        (if v.getLsbD 3 = false ∧ (s.ch n).ie = true ∧ s.pv = vectorValue (some n) then
          s.lineEvent false :: (if t.pv = 0x0000#16 then [] else [s.lineEvent true])
        else if v.getLsbD 3 = true ∧ v.getLsbD 2 = true ∧ s.pv = 0x0000#16 then [s.lineEvent true] else []) ++
        s.queriedBy n v ++ List.replicate (s.scheduledBy n v) (.schedule 0#32 n)

/-! ### Transfer -/

/-- STEP of a block that goes on (R104 to R106, R108): the byte at `cs` is stored at `cd` and no other byte changes, both
cursors move by their steps modulo 2^20, the count goes down by one, and nothing else changes but the queue and the two
bus events. -/
def Obligations.TransferMovesOneByte : Prop :=
  ∀ (s : State) (n : ChIdx) (rest : List ChIdx), s.fault = none → s.pending = n :: rest → Mem.wf s.mem = true →
    (s.ch n).en = true → 1 < (s.ch n).size.toNat → s.ownWindow (s.ch n).cs = false → s.ownWindow (s.ch n).cd = false →
    s.draws.readFails = false → s.draws.writeFails = false →
    ∃ t, exec .step s = .next t ∧
      (∀ a, t.readByte a = if a = (s.ch n).cd then s.readByte (s.ch n).cs else s.readByte a) ∧
      t.ch n = { s.ch n with
        cs := BitVec.ofNat 20 (movedCursor (s.ch n).cs (s.ch n).srcStep)
        cd := BitVec.ofNat 20 (movedCursor (s.ch n).cd (s.ch n).dstStep)
        size := BitVec.ofNat 16 ((s.ch n).size.toNat - 1) } ∧
      (∀ m, m ≠ n → t.ch m = s.ch m) ∧
      t = { s with
        ch0 := t.ch0, ch1 := t.ch1, ch2 := t.ch2, mem := t.mem, pending := rest
        out := s.out ++ [.busRead (s.ch n).cs, .busWrite (s.ch n).cd (s.readByte (s.ch n).cs)] }

/-- STEP that ends a block (R107): the byte is moved, the cursors return to the bases, the count reloads, a channel that is
not in a REPEATED mode is disabled, `ifg` is set, the control shadow is kept, and the channel asks for the vector exactly
when its `ie` is 1. -/
def Obligations.LastTransferEndsBlock : Prop :=
  ∀ (s : State) (n : ChIdx) (rest : List ChIdx), s.fault = none → s.pending = n :: rest → Mem.wf s.mem = true →
    legalVector s.pv = true →
    (s.ch n).en = true → (s.ch n).size = 1#16 → s.ownWindow (s.ch n).cs = false → s.ownWindow (s.ch n).cd = false →
    s.draws.readFails = false → s.draws.writeFails = false →
    ∃ t, exec .step s = .next t ∧
      (∀ a, t.readByte a = if a = (s.ch n).cd then s.readByte (s.ch n).cs else s.readByte a) ∧
      t.ch n = { s.ch n with
        cs := (s.ch n).sa
        cd := (s.ch n).da
        size := (s.ch n).total
        en := (transferMode (s.ch n).mode).isRepeated
        ifg := true } ∧
      (∀ m, m ≠ n → t.ch m = s.ch m) ∧
      t = { s with
        ch0 := t.ch0, ch1 := t.ch1, ch2 := t.ch2, mem := t.mem, pending := rest
        pv := if (s.ch n).ie then vectorAfterAcquire s.pv n else s.pv
        irq := s.irq || ((s.ch n).ie && (s.pv == 0x0000#16))
        out := s.out ++ [.busRead (s.ch n).cs, .busWrite (s.ch n).cd (s.readByte (s.ch n).cs)] ++
          (if (s.ch n).ie = true ∧ s.pv = 0x0000#16 then [s.lineEvent true] else []) }

/-- R109: a STEP for a disabled channel removes the queue entry and does nothing else. -/
def Obligations.DisabledStepOnlyDequeues : Prop :=
  ∀ (s : State) (n : ChIdx) (rest : List ChIdx), s.fault = none → s.pending = n :: rest → (s.ch n).en = false →
    exec .step s = .next { s with pending := rest }

/-- R110: a STEP of an enabled channel whose `size` is 0 raises ZERO_SIZE with n as info and changes nothing.
That the queue entry is kept too is the model's choice (log 2). -/
def Obligations.ZeroSizeStepFaults : Prop :=
  ∀ (s : State) (n : ChIdx) (rest : List ChIdx), s.fault = none → s.pending = n :: rest →
    (s.ch n).en = true → (s.ch n).size = 0#16 →
    exec .step s = .next { s with fault := some (.zeroSize n) }

/-- R111, R53: a STEP of an enabled channel with `size >= 1` whose source or destination cursor lies in the block's own
window raises SELF_ACCESS before any bus access and changes nothing. That the queue entry is kept too is the model's choice
(log 2). -/
def Obligations.OwnWindowStepFaults : Prop :=
  ∀ (s : State) (n : ChIdx) (rest : List ChIdx), s.fault = none → s.pending = n :: rest →
    (s.ch n).en = true → 1 ≤ (s.ch n).size.toNat →
    (s.ownWindow (s.ch n).cs = true ∨ s.ownWindow (s.ch n).cd = true) →
    exec .step s = .next { s with fault := some (.selfAccess n (s.ch n).cs (s.ch n).cd) }

/-- R112, R146: a bus failure on the read, or on the write after a good read, raises BUS_ERROR with the address; no byte of
memory and no counter changes. That the queue entry is kept, that failures are
draws, and that the failed access stands in the trace are the model's choices (log 2, 7, 10). -/
def Obligations.BusFailureFaults : Prop :=
  ∀ (s : State) (n : ChIdx) (rest : List ChIdx), s.fault = none → s.pending = n :: rest →
    (s.ch n).en = true → 1 ≤ (s.ch n).size.toNat → s.ownWindow (s.ch n).cs = false → s.ownWindow (s.ch n).cd = false →
    (s.draws.readFails = true →
      exec .step s = .next { s with
        fault := some (.busError (s.ch n).cs), out := s.out ++ [.busRead (s.ch n).cs] }) ∧
    (s.draws.readFails = false → s.draws.writeFails = true →
      exec .step s = .next { s with
        fault := some (.busError (s.ch n).cd)
        out := s.out ++ [.busRead (s.ch n).cs, .busWrite (s.ch n).cd (s.readByte (s.ch n).cs)] })

/-! ### Trigger multiplexer -/

/-- FIRE (R137, R138, R139): one step is scheduled for every channel whose copied binding is (p, k), in ascending index
order, whatever its enable or count; nothing else changes, and nothing at all when no channel matches. -/
def Obligations.FireSchedulesBoundChannels : Prop :=
  (∀ p k, (encode (.fire p k)).word = 0x100#10) ∧
  ∀ (s : State) (p : Provider) (k : Byte), s.fault = none →
    let hit := [ChIdx.c0, ChIdx.c1, ChIdx.c2].filter fun n => decide ((s.ch n).bound = some ⟨p, k⟩)
    exec (.fire p k) s = .next { s with
      pending := s.pending ++ hit, out := s.out ++ hit.map fun n => .schedule 0#32 n }

/-- BIND (R140, R141), ids 0 to 31: the entry t is written, every other entry, every channel's copied binding and all
other state are kept, and `registerDMA` is sent to p; an id above 31 raises BIND_RANGE. -/
def Obligations.BindWritesTableEntry : Prop :=
  (∀ t p k, (encode (.bind t p k)).word.toNat = 0x180 + t.toNat) ∧
  (∀ (s : State) (t : BitVec 7) (p : Provider) (k : Byte), s.fault = none → t.toNat ≤ 31 →
    ∃ u, exec (.bind t p k) s = .next u ∧
      (∀ e : TrigId, u.tableAt e = if e.toNat = t.toNat then some ⟨p, k⟩ else s.tableAt e) ∧
      u = { s with table := u.table, out := s.out ++ [.registerDMA p] }) ∧
  ∀ (s : State) (t : BitVec 7) (p : Provider) (k : Byte), s.fault = none → 31 < t.toNat →
    exec (.bind t p k) s = .next { s with fault := some (.bindRange t) }

/-- R141: a channel's binding changes only by a write to DMACTL0 (channels 0, 1) or DMACTL1 (channel 2), or by RESET; a
trigger-table entry changes only by BIND. -/
def Obligations.BindingsAreCopies : Prop :=
  ∀ (i : Instr) (s t : State), exec i s = .next t →
    (t.ch0.bound ≠ s.ch0.bound ∨ t.ch1.bound ≠ s.ch1.bound → i = .reset ∨ ∃ d, i = .wrDmactl0 .word d) ∧
    (t.ch2.bound ≠ s.ch2.bound → i = .reset ∨ ∃ d, i = .wrDmactl1 .word d) ∧
    (t.table ≠ s.table → ∃ e p k, i = .bind e p k)

/-! ### Reset -/

/-- RESET (R164): every register and channel field zero, every channel unbound, the queue emptied, the line deasserted with
one event if it was asserted; the trigger table is kept. It is not accepted in a faulted state. That the bus
memory, the parameters, the draws, the input list and the earlier outputs are kept is the model's inference (log 11). -/
def Obligations.ResetClearsBlock : Prop :=
  (encode .reset).word = 0x280#10 ∧
  (∀ s : State, s.fault = none →
    ∃ t, exec .reset s = .next t ∧
      (∀ n, t.ch n = ⟨0#16, 0#3, .zero, .zero, false, false, false, false, false, false, 0#20, 0#20, 0#20, 0#20, 0#16, 0#16,
        none⟩) ∧
      t = { s with
        ctl0 := 0#16, ctl1 := 0#16, ctl2 := 0#16, ctl3 := 0#16, ctl4 := 0#16, pv := 0#16, irq := false
        ch0 := t.ch0, ch1 := t.ch1, ch2 := t.ch2, pending := []
        out := s.out ++ (if s.irq then [s.lineEvent false] else []) }) ∧
  ∀ (s : State) (m : FaultMark), s.fault = some m → exec .reset s = .fault (.faulted m)

/-- R165, R39: the block's state at power-up, and every register of the map reads 0x0000 there, and no other value. -/
def Obligations.PowerUpState : Prop :=
  (∀ n, State.reset.ch n = ⟨0#16, 0#3, .zero, .zero, false, false, false, false, false, false, 0#20, 0#20, 0#20, 0#20, 0#16,
    0#16, none⟩) ∧
  (∀ e, State.reset.tableAt e = none) ∧ State.reset.pending = [] ∧ State.reset.pv = 0#16 ∧ State.reset.irq = false ∧
  State.reset.fault = none ∧
  ∀ r : Reg, ∃ t, exec (.rd r .word) State.reset = .next t ∧ ∀ v, .readData v ∈ t.out ↔ v = 0x0000#16

/-! ### Whole-machine rules and invariants -/

/-- R51: every operation but STEP leaves every byte of the bus memory alone and drives no bus access. -/
def Obligations.OnlyStepTouchesBus : Prop :=
  ∀ (i : Instr) (s t : State), i ≠ .step → exec i s = .next t →
    (∀ a, t.readByte a = s.readByte a) ∧
    ∃ l, t.out = s.out ++ l ∧ ∀ o ∈ l, (∀ a, o ≠ .busRead a) ∧ ∀ a v, o ≠ .busWrite a v

/-- R103, R101: cursors and count of a channel are changed only by STEP, RESET and the channel's own base and size
writes, each of which changes its own cursor or count alone; in particular no DMAnCTL write changes them. -/
def Obligations.CursorMutators : Prop :=
  ∀ (i : Instr) (s t : State) (n : ChIdx), i ≠ .step → i ≠ .reset → exec i s = .next t →
    ((t.ch n).cs ≠ (s.ch n).cs → ∃ d, i = .wr (.channel n .sal) .word d ∨ i = .wr (.channel n .sah) .word d) ∧
    ((t.ch n).cd ≠ (s.ch n).cd → ∃ d, i = .wr (.channel n .dal) .word d ∨ i = .wr (.channel n .dah) .word d) ∧
    ((t.ch n).size ≠ (s.ch n).size ∨ (t.ch n).total ≠ (s.ch n).total → ∃ d, i = .wr (.channel n .sz) .word d)

/-- R37: the flags `en` and `ifg` of a channel are raised only by a DMAnCTL write that carries their bit and, for `ifg`,
by a STEP; `ie` is changed only by a DMAnCTL write and RESET. -/
def Obligations.FlagSetters : Prop :=
  ∀ (i : Instr) (s t : State) (n : ChIdx), exec i s = .next t →
    ((s.ch n).en = false → (t.ch n).en = true → ∃ v, i = .wr (.channel n .ctl) .word v ∧ v.getLsbD 4 = true) ∧
    ((s.ch n).ifg = false → (t.ch n).ifg = true →
      i = .step ∨ ∃ v, i = .wr (.channel n .ctl) .word v ∧ v.getLsbD 3 = true) ∧
    ((t.ch n).ie ≠ (s.ch n).ie → i = .reset ∨ ∃ v, i = .wr (.channel n .ctl) .word v ∧ (t.ch n).ie = v.getLsbD 2)

/-- R34, R57: the queue of scheduled steps is a FIFO: RESET empties it, STEP takes its head (or stops with a fault mark and
leaves it), and any other operation only appends, for each appended entry driving one `Schedule` with delay 0.
That a faulting STEP leaves the queue is the model's choice (log 2). -/
def Obligations.PendingQueueIsFifo : Prop :=
  ∀ (i : Instr) (s t : State), exec i s = .next t →
    (i = .reset → t.pending = []) ∧
    (i = .step → (t.fault = none ∧ ∃ n, s.pending = n :: t.pending) ∨ (t.fault.isSome ∧ t.pending = s.pending)) ∧
    (i ≠ .reset → i ≠ .step → ∃ l : List ChIdx, t.pending = s.pending ++ l ∧
      ((t.out.drop s.out.length).filter fun o => match o with | .schedule _ _ => true | _ => false) =
        l.map fun n => .schedule 0#32 n)

/-- The parameters (R10), the draws and the input list are arguments of an operation and never changed by one; outputs are
only ever appended. That these are fields of the state is the model's choice (log 1, 4, 6, 7, 10). -/
def Obligations.ParametersAreConstant : Prop :=
  ∀ (i : Instr) (s t : State), exec i s = .next t →
    t.platform = s.platform ∧ t.draws = s.draws ∧ t.input = s.input ∧ s.out <+: t.out

/-- R62: a FIRE presented just before a transfer that ends without a fault leaves the same state as one presented just
after it, but for the order of the outputs. -/
def Obligations.FireCommutesWithTransfer : Prop :=
  ∀ (s t u : State) (p : Provider) (k : Byte),
    exec .step s = .next t → t.fault = none → exec (.fire p k) t = .next u →
    ∃ t' u', exec (.fire p k) s = .next t' ∧ exec .step t' = .next u' ∧ u' = { u with out := u'.out }

/-- The invariants R33 (vector and line), R36 (size at most total), R98 and R107 (size 0 only with total 0), R28 (decoded
fields agree with the stored word) and the canonical form of the memory (the model's, log 8) hold at power-up, and R119's priority invariant and R32's line level. -/
def Obligations.PowerUpMeetsInvariants : Prop :=
  State.reset.ok = true ∧ State.reset.lineOk = true ∧ State.reset.priorityOk = true

/-- R28, R33, R36, R98: every step, whatever is presented and with whatever draws and stores, keeps the invariants: a legal
vector with the line high exactly while it is not 0, `size <= total` and `size = 0` only when `total = 0` (so the count read
after the end of a block is 0 only if 0 was written, R98, R107), decoded fields that agree with the stored word, and
the canonical form of the memory (the model's, log 8). -/
def Obligations.StepKeepsInvariants : Prop :=
  ∀ s t : State, s.ok = true → step s = .next t → t.ok = true

/-- R32, R116: every step, from a state in which `irq` is the level last driven on the interrupt line (low before the first
drive), answers a state in which it is so again. The trace of outputs is the model's (log 10). -/
def Obligations.LineLevelMatchesEvents : Prop :=
  ∀ s t : State, s.lineOk = true → step s = .next t → t.lineOk = true

/-- R119 (C6): the vector names the lowest-index channel with flag and interrupt enable, 0 when there is none; every
operation but the control writes the rule excludes keeps this. -/
def Obligations.PriorityInvariantKept : Prop :=
  ∀ (i : Instr) (s t : State), s.priorityOk = true → s.staleInstr i = false → exec i s = .next t → t.priorityOk = true

/-- R151: with the invariants, the line is asserted exactly while some channel has flag and interrupt enable; then a DMAIV
read returns the vector of the lowest-index such channel and no other value, and while none has both it returns 0. -/
def Obligations.VectorReadNamesHighestPriority : Prop :=
  ∀ s : State, s.fault = none → s.ok = true → s.priorityOk = true →
    (s.irq = true ↔ ∃ n, (s.ch n).ifg = true ∧ (s.ch n).ie = true) ∧
    (∀ n, (s.ch n).ifg = true → (s.ch n).ie = true → (∀ m, m.num < n.num → ((s.ch m).ifg && (s.ch m).ie) = false) →
      ∃ t, exec (.rdDmaiv .word) s = .next t ∧
        ∀ v, .readData v ∈ t.out.drop s.out.length ↔ v = vectorValue (some n)) ∧
    ((∀ n, ((s.ch n).ifg && (s.ch n).ie) = false) →
      ∃ t, exec (.rdDmaiv .word) s = .next t ∧ ∀ v, .readData v ∈ t.out.drop s.out.length ↔ v = 0x0000#16)

/-- D29, R144: a successful end of a run has nothing left to do, and a faulted state is never one. -/
def Obligations.SuccessfulEndIsFinal : Prop :=
  ∀ s : State, (s.successfulEnd = true → step s = .fault .noOperation ∧ exec .step s = .fault .stepNotEnabled) ∧
    (s.fault.isSome → s.successfulEnd = false)

/-- RD_DMAIV (R135) without the place of the value in the output trace: `s.pv` and no other value is returned, every other
output is RELEASE's, in RELEASE's order, and the state is the one RELEASE leaves. -/
def Obligations.DmaivReadReturnsVectorAndReleases : Prop :=
  (∀ w, (encode (.rdDmaiv w)).word = 0x00E#10) ∧
  ∀ s : State, s.fault = none → legalVector s.pv = true →
    ∃ t l, exec (.rdDmaiv .word) s = .next t ∧ t.out = s.out ++ l ∧
      (l.filter fun o => match o with | .readData _ => true | _ => false) = [.readData s.pv] ∧
      s.out ++ (l.filter fun o => match o with | .readData _ => false | _ => true) = s.released.out ∧
      t = { s.released with out := t.out }
end

