-- ==== Sys2Proof/Laws/State.lean ====
section
/-! SUPPORT. One lemma per field per update of State, and what reading a channel or a table entry gives after writing one,
so that no later proof unfolds a record update. -/

namespace Sys2Proof.Machine

/-! ### emit -/

@[simp] theorem State.emit_ctl0 (s : State) (o : Output) : (s.emit o).ctl0 = s.ctl0 := rfl
@[simp] theorem State.emit_ctl1 (s : State) (o : Output) : (s.emit o).ctl1 = s.ctl1 := rfl
@[simp] theorem State.emit_ctl2 (s : State) (o : Output) : (s.emit o).ctl2 = s.ctl2 := rfl
@[simp] theorem State.emit_ctl3 (s : State) (o : Output) : (s.emit o).ctl3 = s.ctl3 := rfl
@[simp] theorem State.emit_ctl4 (s : State) (o : Output) : (s.emit o).ctl4 = s.ctl4 := rfl
@[simp] theorem State.emit_pv (s : State) (o : Output) : (s.emit o).pv = s.pv := rfl
@[simp] theorem State.emit_irq (s : State) (o : Output) : (s.emit o).irq = s.irq := rfl
@[simp] theorem State.emit_table (s : State) (o : Output) : (s.emit o).table = s.table := rfl
@[simp] theorem State.emit_ch0 (s : State) (o : Output) : (s.emit o).ch0 = s.ch0 := rfl
@[simp] theorem State.emit_ch1 (s : State) (o : Output) : (s.emit o).ch1 = s.ch1 := rfl
@[simp] theorem State.emit_ch2 (s : State) (o : Output) : (s.emit o).ch2 = s.ch2 := rfl
@[simp] theorem State.emit_pending (s : State) (o : Output) : (s.emit o).pending = s.pending := rfl
@[simp] theorem State.emit_fault (s : State) (o : Output) : (s.emit o).fault = s.fault := rfl
@[simp] theorem State.emit_platform (s : State) (o : Output) : (s.emit o).platform = s.platform := rfl
@[simp] theorem State.emit_mem (s : State) (o : Output) : (s.emit o).mem = s.mem := rfl
@[simp] theorem State.emit_draws (s : State) (o : Output) : (s.emit o).draws = s.draws := rfl
@[simp] theorem State.emit_input (s : State) (o : Output) : (s.emit o).input = s.input := rfl
@[simp] theorem State.emit_out (s : State) (o : Output) : (s.emit o).out = s.out ++ [o] := rfl

/-! ### setLine -/

@[simp] theorem State.setLine_ctl0 (s : State) (b : Bool) : (s.setLine b).ctl0 = s.ctl0 := rfl
@[simp] theorem State.setLine_ctl1 (s : State) (b : Bool) : (s.setLine b).ctl1 = s.ctl1 := rfl
@[simp] theorem State.setLine_ctl2 (s : State) (b : Bool) : (s.setLine b).ctl2 = s.ctl2 := rfl
@[simp] theorem State.setLine_ctl3 (s : State) (b : Bool) : (s.setLine b).ctl3 = s.ctl3 := rfl
@[simp] theorem State.setLine_ctl4 (s : State) (b : Bool) : (s.setLine b).ctl4 = s.ctl4 := rfl
@[simp] theorem State.setLine_pv (s : State) (b : Bool) : (s.setLine b).pv = s.pv := rfl
@[simp] theorem State.setLine_irq (s : State) (b : Bool) : (s.setLine b).irq = s.irq := rfl
@[simp] theorem State.setLine_table (s : State) (b : Bool) : (s.setLine b).table = s.table := rfl
@[simp] theorem State.setLine_ch0 (s : State) (b : Bool) : (s.setLine b).ch0 = s.ch0 := rfl
@[simp] theorem State.setLine_ch1 (s : State) (b : Bool) : (s.setLine b).ch1 = s.ch1 := rfl
@[simp] theorem State.setLine_ch2 (s : State) (b : Bool) : (s.setLine b).ch2 = s.ch2 := rfl
@[simp] theorem State.setLine_pending (s : State) (b : Bool) : (s.setLine b).pending = s.pending := rfl
@[simp] theorem State.setLine_fault (s : State) (b : Bool) : (s.setLine b).fault = s.fault := rfl
@[simp] theorem State.setLine_platform (s : State) (b : Bool) : (s.setLine b).platform = s.platform := rfl
@[simp] theorem State.setLine_mem (s : State) (b : Bool) : (s.setLine b).mem = s.mem := rfl
@[simp] theorem State.setLine_draws (s : State) (b : Bool) : (s.setLine b).draws = s.draws := rfl
@[simp] theorem State.setLine_input (s : State) (b : Bool) : (s.setLine b).input = s.input := rfl
@[simp] theorem State.setLine_out (s : State) (b : Bool) : (s.setLine b).out = s.out ++ [s.lineEvent b] := rfl

/-! ### returnData -/

@[simp] theorem State.returnData_ctl0 (s : State) (v : Word16) : (s.returnData v).ctl0 = s.ctl0 := rfl
@[simp] theorem State.returnData_ctl1 (s : State) (v : Word16) : (s.returnData v).ctl1 = s.ctl1 := rfl
@[simp] theorem State.returnData_ctl2 (s : State) (v : Word16) : (s.returnData v).ctl2 = s.ctl2 := rfl
@[simp] theorem State.returnData_ctl3 (s : State) (v : Word16) : (s.returnData v).ctl3 = s.ctl3 := rfl
@[simp] theorem State.returnData_ctl4 (s : State) (v : Word16) : (s.returnData v).ctl4 = s.ctl4 := rfl
@[simp] theorem State.returnData_pv (s : State) (v : Word16) : (s.returnData v).pv = s.pv := rfl
@[simp] theorem State.returnData_irq (s : State) (v : Word16) : (s.returnData v).irq = s.irq := rfl
@[simp] theorem State.returnData_table (s : State) (v : Word16) : (s.returnData v).table = s.table := rfl
@[simp] theorem State.returnData_ch0 (s : State) (v : Word16) : (s.returnData v).ch0 = s.ch0 := rfl
@[simp] theorem State.returnData_ch1 (s : State) (v : Word16) : (s.returnData v).ch1 = s.ch1 := rfl
@[simp] theorem State.returnData_ch2 (s : State) (v : Word16) : (s.returnData v).ch2 = s.ch2 := rfl
@[simp] theorem State.returnData_pending (s : State) (v : Word16) : (s.returnData v).pending = s.pending := rfl
@[simp] theorem State.returnData_fault (s : State) (v : Word16) : (s.returnData v).fault = s.fault := rfl
@[simp] theorem State.returnData_platform (s : State) (v : Word16) : (s.returnData v).platform = s.platform := rfl
@[simp] theorem State.returnData_mem (s : State) (v : Word16) : (s.returnData v).mem = s.mem := rfl
@[simp] theorem State.returnData_draws (s : State) (v : Word16) : (s.returnData v).draws = s.draws := rfl
@[simp] theorem State.returnData_input (s : State) (v : Word16) : (s.returnData v).input = s.input := rfl
@[simp] theorem State.returnData_out (s : State) (v : Word16) : (s.returnData v).out = s.out ++ [.readData v] := rfl

/-! ### schedule -/

@[simp] theorem State.schedule_ctl0 (s : State) (n : ChIdx) : (s.schedule n).ctl0 = s.ctl0 := rfl
@[simp] theorem State.schedule_ctl1 (s : State) (n : ChIdx) : (s.schedule n).ctl1 = s.ctl1 := rfl
@[simp] theorem State.schedule_ctl2 (s : State) (n : ChIdx) : (s.schedule n).ctl2 = s.ctl2 := rfl
@[simp] theorem State.schedule_ctl3 (s : State) (n : ChIdx) : (s.schedule n).ctl3 = s.ctl3 := rfl
@[simp] theorem State.schedule_ctl4 (s : State) (n : ChIdx) : (s.schedule n).ctl4 = s.ctl4 := rfl
@[simp] theorem State.schedule_pv (s : State) (n : ChIdx) : (s.schedule n).pv = s.pv := rfl
@[simp] theorem State.schedule_irq (s : State) (n : ChIdx) : (s.schedule n).irq = s.irq := rfl
@[simp] theorem State.schedule_table (s : State) (n : ChIdx) : (s.schedule n).table = s.table := rfl
@[simp] theorem State.schedule_ch0 (s : State) (n : ChIdx) : (s.schedule n).ch0 = s.ch0 := rfl
@[simp] theorem State.schedule_ch1 (s : State) (n : ChIdx) : (s.schedule n).ch1 = s.ch1 := rfl
@[simp] theorem State.schedule_ch2 (s : State) (n : ChIdx) : (s.schedule n).ch2 = s.ch2 := rfl
@[simp] theorem State.schedule_pending (s : State) (n : ChIdx) : (s.schedule n).pending = s.pending ++ [n] := rfl
@[simp] theorem State.schedule_fault (s : State) (n : ChIdx) : (s.schedule n).fault = s.fault := rfl
@[simp] theorem State.schedule_platform (s : State) (n : ChIdx) : (s.schedule n).platform = s.platform := rfl
@[simp] theorem State.schedule_mem (s : State) (n : ChIdx) : (s.schedule n).mem = s.mem := rfl
@[simp] theorem State.schedule_draws (s : State) (n : ChIdx) : (s.schedule n).draws = s.draws := rfl
@[simp] theorem State.schedule_input (s : State) (n : ChIdx) : (s.schedule n).input = s.input := rfl
@[simp] theorem State.schedule_out (s : State) (n : ChIdx) : (s.schedule n).out = s.out ++ [.schedule 0#32 n] := rfl

/-! ### raise -/

@[simp] theorem State.raise_ctl0 (s : State) (m : FaultMark) : (s.raise m).ctl0 = s.ctl0 := rfl
@[simp] theorem State.raise_ctl1 (s : State) (m : FaultMark) : (s.raise m).ctl1 = s.ctl1 := rfl
@[simp] theorem State.raise_ctl2 (s : State) (m : FaultMark) : (s.raise m).ctl2 = s.ctl2 := rfl
@[simp] theorem State.raise_ctl3 (s : State) (m : FaultMark) : (s.raise m).ctl3 = s.ctl3 := rfl
@[simp] theorem State.raise_ctl4 (s : State) (m : FaultMark) : (s.raise m).ctl4 = s.ctl4 := rfl
@[simp] theorem State.raise_pv (s : State) (m : FaultMark) : (s.raise m).pv = s.pv := rfl
@[simp] theorem State.raise_irq (s : State) (m : FaultMark) : (s.raise m).irq = s.irq := rfl
@[simp] theorem State.raise_table (s : State) (m : FaultMark) : (s.raise m).table = s.table := rfl
@[simp] theorem State.raise_ch0 (s : State) (m : FaultMark) : (s.raise m).ch0 = s.ch0 := rfl
@[simp] theorem State.raise_ch1 (s : State) (m : FaultMark) : (s.raise m).ch1 = s.ch1 := rfl
@[simp] theorem State.raise_ch2 (s : State) (m : FaultMark) : (s.raise m).ch2 = s.ch2 := rfl
@[simp] theorem State.raise_pending (s : State) (m : FaultMark) : (s.raise m).pending = s.pending := rfl
@[simp] theorem State.raise_fault (s : State) (m : FaultMark) : (s.raise m).fault = some m := rfl
@[simp] theorem State.raise_platform (s : State) (m : FaultMark) : (s.raise m).platform = s.platform := rfl
@[simp] theorem State.raise_mem (s : State) (m : FaultMark) : (s.raise m).mem = s.mem := rfl
@[simp] theorem State.raise_draws (s : State) (m : FaultMark) : (s.raise m).draws = s.draws := rfl
@[simp] theorem State.raise_input (s : State) (m : FaultMark) : (s.raise m).input = s.input := rfl
@[simp] theorem State.raise_out (s : State) (m : FaultMark) : (s.raise m).out = s.out := rfl

/-! ### storeByte -/

@[simp] theorem State.storeByte_ctl0 (s : State) (a : Addr) (v : Byte) : (s.storeByte a v).ctl0 = s.ctl0 := rfl
@[simp] theorem State.storeByte_ctl1 (s : State) (a : Addr) (v : Byte) : (s.storeByte a v).ctl1 = s.ctl1 := rfl
@[simp] theorem State.storeByte_ctl2 (s : State) (a : Addr) (v : Byte) : (s.storeByte a v).ctl2 = s.ctl2 := rfl
@[simp] theorem State.storeByte_ctl3 (s : State) (a : Addr) (v : Byte) : (s.storeByte a v).ctl3 = s.ctl3 := rfl
@[simp] theorem State.storeByte_ctl4 (s : State) (a : Addr) (v : Byte) : (s.storeByte a v).ctl4 = s.ctl4 := rfl
@[simp] theorem State.storeByte_pv (s : State) (a : Addr) (v : Byte) : (s.storeByte a v).pv = s.pv := rfl
@[simp] theorem State.storeByte_irq (s : State) (a : Addr) (v : Byte) : (s.storeByte a v).irq = s.irq := rfl
@[simp] theorem State.storeByte_table (s : State) (a : Addr) (v : Byte) : (s.storeByte a v).table = s.table := rfl
@[simp] theorem State.storeByte_ch0 (s : State) (a : Addr) (v : Byte) : (s.storeByte a v).ch0 = s.ch0 := rfl
@[simp] theorem State.storeByte_ch1 (s : State) (a : Addr) (v : Byte) : (s.storeByte a v).ch1 = s.ch1 := rfl
@[simp] theorem State.storeByte_ch2 (s : State) (a : Addr) (v : Byte) : (s.storeByte a v).ch2 = s.ch2 := rfl
@[simp] theorem State.storeByte_pending (s : State) (a : Addr) (v : Byte) : (s.storeByte a v).pending = s.pending := rfl
@[simp] theorem State.storeByte_fault (s : State) (a : Addr) (v : Byte) : (s.storeByte a v).fault = s.fault := rfl
@[simp] theorem State.storeByte_platform (s : State) (a : Addr) (v : Byte) : (s.storeByte a v).platform = s.platform := rfl
@[simp] theorem State.storeByte_mem (s : State) (a : Addr) (v : Byte) : (s.storeByte a v).mem = Mem.write s.mem a.toNat v := rfl
@[simp] theorem State.storeByte_draws (s : State) (a : Addr) (v : Byte) : (s.storeByte a v).draws = s.draws := rfl
@[simp] theorem State.storeByte_input (s : State) (a : Addr) (v : Byte) : (s.storeByte a v).input = s.input := rfl
@[simp] theorem State.storeByte_out (s : State) (a : Addr) (v : Byte) : (s.storeByte a v).out = s.out := rfl

/-! ### setTable -/

@[simp] theorem State.setTable_ctl0 (s : State) (t : TrigId) (b : Binding) : (s.setTable t b).ctl0 = s.ctl0 := rfl
@[simp] theorem State.setTable_ctl1 (s : State) (t : TrigId) (b : Binding) : (s.setTable t b).ctl1 = s.ctl1 := rfl
@[simp] theorem State.setTable_ctl2 (s : State) (t : TrigId) (b : Binding) : (s.setTable t b).ctl2 = s.ctl2 := rfl
@[simp] theorem State.setTable_ctl3 (s : State) (t : TrigId) (b : Binding) : (s.setTable t b).ctl3 = s.ctl3 := rfl
@[simp] theorem State.setTable_ctl4 (s : State) (t : TrigId) (b : Binding) : (s.setTable t b).ctl4 = s.ctl4 := rfl
@[simp] theorem State.setTable_pv (s : State) (t : TrigId) (b : Binding) : (s.setTable t b).pv = s.pv := rfl
@[simp] theorem State.setTable_irq (s : State) (t : TrigId) (b : Binding) : (s.setTable t b).irq = s.irq := rfl
@[simp] theorem State.setTable_ch0 (s : State) (t : TrigId) (b : Binding) : (s.setTable t b).ch0 = s.ch0 := rfl
@[simp] theorem State.setTable_ch1 (s : State) (t : TrigId) (b : Binding) : (s.setTable t b).ch1 = s.ch1 := rfl
@[simp] theorem State.setTable_ch2 (s : State) (t : TrigId) (b : Binding) : (s.setTable t b).ch2 = s.ch2 := rfl
@[simp] theorem State.setTable_pending (s : State) (t : TrigId) (b : Binding) : (s.setTable t b).pending = s.pending := rfl
@[simp] theorem State.setTable_fault (s : State) (t : TrigId) (b : Binding) : (s.setTable t b).fault = s.fault := rfl
@[simp] theorem State.setTable_platform (s : State) (t : TrigId) (b : Binding) : (s.setTable t b).platform = s.platform := rfl
@[simp] theorem State.setTable_mem (s : State) (t : TrigId) (b : Binding) : (s.setTable t b).mem = s.mem := rfl
@[simp] theorem State.setTable_draws (s : State) (t : TrigId) (b : Binding) : (s.setTable t b).draws = s.draws := rfl
@[simp] theorem State.setTable_input (s : State) (t : TrigId) (b : Binding) : (s.setTable t b).input = s.input := rfl
@[simp] theorem State.setTable_out (s : State) (t : TrigId) (b : Binding) : (s.setTable t b).out = s.out := rfl

/-! ### arrive -/

@[simp] theorem State.arrive_ctl0 (s : State) (a : Arrival) (rest : List Arrival) : (s.arrive a rest).ctl0 = s.ctl0 := rfl
@[simp] theorem State.arrive_ctl1 (s : State) (a : Arrival) (rest : List Arrival) : (s.arrive a rest).ctl1 = s.ctl1 := rfl
@[simp] theorem State.arrive_ctl2 (s : State) (a : Arrival) (rest : List Arrival) : (s.arrive a rest).ctl2 = s.ctl2 := rfl
@[simp] theorem State.arrive_ctl3 (s : State) (a : Arrival) (rest : List Arrival) : (s.arrive a rest).ctl3 = s.ctl3 := rfl
@[simp] theorem State.arrive_ctl4 (s : State) (a : Arrival) (rest : List Arrival) : (s.arrive a rest).ctl4 = s.ctl4 := rfl
@[simp] theorem State.arrive_pv (s : State) (a : Arrival) (rest : List Arrival) : (s.arrive a rest).pv = s.pv := rfl
@[simp] theorem State.arrive_irq (s : State) (a : Arrival) (rest : List Arrival) : (s.arrive a rest).irq = s.irq := rfl
@[simp] theorem State.arrive_table (s : State) (a : Arrival) (rest : List Arrival) : (s.arrive a rest).table = s.table := rfl
@[simp] theorem State.arrive_ch0 (s : State) (a : Arrival) (rest : List Arrival) : (s.arrive a rest).ch0 = s.ch0 := rfl
@[simp] theorem State.arrive_ch1 (s : State) (a : Arrival) (rest : List Arrival) : (s.arrive a rest).ch1 = s.ch1 := rfl
@[simp] theorem State.arrive_ch2 (s : State) (a : Arrival) (rest : List Arrival) : (s.arrive a rest).ch2 = s.ch2 := rfl
@[simp] theorem State.arrive_pending (s : State) (a : Arrival) (rest : List Arrival) : (s.arrive a rest).pending = s.pending := rfl
@[simp] theorem State.arrive_fault (s : State) (a : Arrival) (rest : List Arrival) : (s.arrive a rest).fault = s.fault := rfl
@[simp] theorem State.arrive_platform (s : State) (a : Arrival) (rest : List Arrival) : (s.arrive a rest).platform = s.platform := rfl
@[simp] theorem State.arrive_mem (s : State) (a : Arrival) (rest : List Arrival) : (s.arrive a rest).mem = storeAll s.mem a.stores := rfl
@[simp] theorem State.arrive_draws (s : State) (a : Arrival) (rest : List Arrival) : (s.arrive a rest).draws = a.draws := rfl
@[simp] theorem State.arrive_input (s : State) (a : Arrival) (rest : List Arrival) : (s.arrive a rest).input = rest := rfl
@[simp] theorem State.arrive_out (s : State) (a : Arrival) (rest : List Arrival) : (s.arrive a rest).out = s.out := rfl

/-! ### chipReset -/

@[simp] theorem State.chipReset_ctl0 (s : State) : (s.chipReset).ctl0 = 0#16 := rfl
@[simp] theorem State.chipReset_ctl1 (s : State) : (s.chipReset).ctl1 = 0#16 := rfl
@[simp] theorem State.chipReset_ctl2 (s : State) : (s.chipReset).ctl2 = 0#16 := rfl
@[simp] theorem State.chipReset_ctl3 (s : State) : (s.chipReset).ctl3 = 0#16 := rfl
@[simp] theorem State.chipReset_ctl4 (s : State) : (s.chipReset).ctl4 = 0#16 := rfl
@[simp] theorem State.chipReset_pv (s : State) : (s.chipReset).pv = 0#16 := rfl
@[simp] theorem State.chipReset_irq (s : State) : (s.chipReset).irq = false := rfl
@[simp] theorem State.chipReset_table (s : State) : (s.chipReset).table = s.table := rfl
@[simp] theorem State.chipReset_ch0 (s : State) : (s.chipReset).ch0 = Channel.reset := rfl
@[simp] theorem State.chipReset_ch1 (s : State) : (s.chipReset).ch1 = Channel.reset := rfl
@[simp] theorem State.chipReset_ch2 (s : State) : (s.chipReset).ch2 = Channel.reset := rfl
@[simp] theorem State.chipReset_pending (s : State) : (s.chipReset).pending = [] := rfl
@[simp] theorem State.chipReset_fault (s : State) : (s.chipReset).fault = s.fault := rfl
@[simp] theorem State.chipReset_platform (s : State) : (s.chipReset).platform = s.platform := rfl
@[simp] theorem State.chipReset_mem (s : State) : (s.chipReset).mem = s.mem := rfl
@[simp] theorem State.chipReset_draws (s : State) : (s.chipReset).draws = s.draws := rfl
@[simp] theorem State.chipReset_input (s : State) : (s.chipReset).input = s.input := rfl
@[simp] theorem State.chipReset_out (s : State) : (s.chipReset).out = s.out := rfl

/-! ### setCh: a channel by its index -/

@[simp] theorem State.setCh_ctl0 (s : State) (n : ChIdx) (c : Channel) : (s.setCh n c).ctl0 = s.ctl0 := by cases n <;> rfl
@[simp] theorem State.setCh_ctl1 (s : State) (n : ChIdx) (c : Channel) : (s.setCh n c).ctl1 = s.ctl1 := by cases n <;> rfl
@[simp] theorem State.setCh_ctl2 (s : State) (n : ChIdx) (c : Channel) : (s.setCh n c).ctl2 = s.ctl2 := by cases n <;> rfl
@[simp] theorem State.setCh_ctl3 (s : State) (n : ChIdx) (c : Channel) : (s.setCh n c).ctl3 = s.ctl3 := by cases n <;> rfl
@[simp] theorem State.setCh_ctl4 (s : State) (n : ChIdx) (c : Channel) : (s.setCh n c).ctl4 = s.ctl4 := by cases n <;> rfl
@[simp] theorem State.setCh_pv (s : State) (n : ChIdx) (c : Channel) : (s.setCh n c).pv = s.pv := by cases n <;> rfl
@[simp] theorem State.setCh_irq (s : State) (n : ChIdx) (c : Channel) : (s.setCh n c).irq = s.irq := by cases n <;> rfl
@[simp] theorem State.setCh_table (s : State) (n : ChIdx) (c : Channel) : (s.setCh n c).table = s.table := by cases n <;> rfl
@[simp] theorem State.setCh_pending (s : State) (n : ChIdx) (c : Channel) : (s.setCh n c).pending = s.pending := by cases n <;> rfl
@[simp] theorem State.setCh_fault (s : State) (n : ChIdx) (c : Channel) : (s.setCh n c).fault = s.fault := by cases n <;> rfl
@[simp] theorem State.setCh_platform (s : State) (n : ChIdx) (c : Channel) : (s.setCh n c).platform = s.platform := by cases n <;> rfl
@[simp] theorem State.setCh_mem (s : State) (n : ChIdx) (c : Channel) : (s.setCh n c).mem = s.mem := by cases n <;> rfl
@[simp] theorem State.setCh_draws (s : State) (n : ChIdx) (c : Channel) : (s.setCh n c).draws = s.draws := by cases n <;> rfl
@[simp] theorem State.setCh_input (s : State) (n : ChIdx) (c : Channel) : (s.setCh n c).input = s.input := by cases n <;> rfl
@[simp] theorem State.setCh_out (s : State) (n : ChIdx) (c : Channel) : (s.setCh n c).out = s.out := by cases n <;> rfl

@[simp] theorem State.ch_setCh_self (s : State) (n : ChIdx) (c : Channel) : (s.setCh n c).ch n = c := by cases n <;> rfl

theorem State.ch_setCh (s : State) (n m : ChIdx) (c : Channel) :
    (s.setCh n c).ch m = if m = n then c else s.ch m := by cases n <;> cases m <;> rfl

theorem State.ch_setCh_ne (s : State) (n m : ChIdx) (c : Channel) (h : m ≠ n) : (s.setCh n c).ch m = s.ch m := by
  simp [State.ch_setCh, h]

@[simp] theorem State.setCh_setCh (s : State) (n : ChIdx) (c d : Channel) : (s.setCh n c).setCh n d = s.setCh n d := by
  cases n <;> rfl

/-- Writing back what stands there changes nothing. -/
@[simp] theorem State.setCh_ch (s : State) (n : ChIdx) : s.setCh n (s.ch n) = s := by cases n <;> rfl

/-- A state whose channel fields are the same reads the same channels. -/
theorem State.ch_congr {s t : State} (h0 : t.ch0 = s.ch0) (h1 : t.ch1 = s.ch1) (h2 : t.ch2 = s.ch2) (n : ChIdx) :
    t.ch n = s.ch n := by cases n <;> assumption

@[simp] theorem State.ch_emit (s : State) (o : Output) (n : ChIdx) : (s.emit o).ch n = s.ch n := by cases n <;> rfl
@[simp] theorem State.ch_setLine (s : State) (b : Bool) (n : ChIdx) : (s.setLine b).ch n = s.ch n := by cases n <;> rfl
@[simp] theorem State.ch_returnData (s : State) (v : Word16) (n : ChIdx) : (s.returnData v).ch n = s.ch n := by
  cases n <;> rfl
@[simp] theorem State.ch_schedule (s : State) (m n : ChIdx) : (s.schedule m).ch n = s.ch n := by cases n <;> rfl
@[simp] theorem State.ch_raise (s : State) (m : FaultMark) (n : ChIdx) : (s.raise m).ch n = s.ch n := by cases n <;> rfl
@[simp] theorem State.ch_storeByte (s : State) (a : Addr) (v : Byte) (n : ChIdx) : (s.storeByte a v).ch n = s.ch n := by
  cases n <;> rfl
@[simp] theorem State.ch_setTable (s : State) (t : TrigId) (b : Binding) (n : ChIdx) : (s.setTable t b).ch n = s.ch n := by
  cases n <;> rfl
@[simp] theorem State.ch_arrive (s : State) (a : Arrival) (r : List Arrival) (n : ChIdx) : (s.arrive a r).ch n = s.ch n := by
  cases n <;> rfl
@[simp] theorem State.ch_chipReset (s : State) (n : ChIdx) : s.chipReset.ch n = Channel.reset := by cases n <;> rfl

/-- The trigger table after one entry is written (R31). -/
@[simp] theorem State.tableAt_setTable (s : State) (t u : TrigId) (b : Binding) :
    (s.setTable t b).tableAt u = if t = u then b else s.tableAt u := by
  simp [State.tableAt, State.setTable, Vector.getElem_set, BitVec.toNat_inj]

/-- Equal tables read the same entries. -/
theorem State.tableAt_congr {s t : State} (h : t.table = s.table) (u : TrigId) : t.tableAt u = s.tableAt u := by
  simp [State.tableAt, h]

/-- What `accept` gives when there is no fault mark. -/
theorem State.accept_none {s : State} (h : s.fault = none) (k : Host.Outcome State Fault Refusal) : s.accept k = k := by
  simp [State.accept, h]

/-- R144: what `accept` gives in a faulted state. -/
theorem State.accept_some {s : State} {m : FaultMark} (h : s.fault = some m) (k : Host.Outcome State Fault Refusal) :
    s.accept k = .fault (.faulted m) := by simp [State.accept, h]

/-- An accepted operation ran from a state without a fault mark. -/
theorem State.accept_next {s t : State} {k : Host.Outcome State Fault Refusal} (h : s.accept k = .next t) :
    s.fault = none ∧ k = .next t := by
  cases hf : s.fault with
  | none => exact ⟨rfl, by rwa [State.accept_none hf] at h⟩
  | some m => rw [State.accept_some hf] at h; cases h

/-- A word access to a register has the register's effect. -/
theorem State.portAccess_word {s : State} (h : s.fault = none) (off : BitVec 7) (e : State) :
    s.portAccess off .word e = .next e := State.accept_none h _

/-- R122: a byte access raises ACCESS_WIDTH. -/
theorem State.portAccess_byte {s : State} (h : s.fault = none) (off : BitVec 7) (e : State) :
    s.portAccess off .byte e = .next (s.raise (.accessWidth (s.busAddr off) .byte)) := State.accept_none h _

/-- Everything a register access can do: the effect, or the ACCESS_WIDTH mark. -/
theorem State.portAccess_next {s t : State} {off : BitVec 7} {w : Width} {e : State} (h : s.portAccess off w e = .next t) :
    s.fault = none ∧ (w = .word ∧ t = e ∨ w = .byte ∧ t = s.raise (.accessWidth (s.busAddr off) .byte)) := by
  obtain ⟨hf, h⟩ := State.accept_next h
  cases w with
  | word => exact ⟨hf, .inl ⟨rfl, by cases h; rfl⟩⟩
  | byte => exact ⟨hf, .inr ⟨rfl, by cases h; rfl⟩⟩

end Sys2Proof.Machine
end

