-- ==== Sys2Proof/Laws/Ops.lean ====
section
/-! SUPPORT. Everything a shared operation can do, said once: ACQUIRE, RELEASE, the parts of CONFIGURE, scheduling. -/

namespace Sys2Proof.Machine

/-- Splits a statement about a legal vector into its four values. -/
theorem legalVector_cases {pv : Word16} (h : legalVector pv = true) : ∃ o, pv = vectorValue o := by
  simp only [legalVector, Bool.or_eq_true, beq_iff_eq] at h
  rcases h with ((h | h) | h) | h
  · exact ⟨none, h⟩
  · exact ⟨some .c0, h⟩
  · exact ⟨some .c1, h⟩
  · exact ⟨some .c2, h⟩

@[simp] theorem legalVector_vectorValue (o : Option ChIdx) : legalVector (vectorValue o) = true := by
  rcases o with _ | n <;> first | rfl | (cases n <;> rfl)

@[simp] theorem ownerOf_vectorValue (o : Option ChIdx) : ownerOf (vectorValue o) = o := by
  rcases o with _ | n <;> first | rfl | (cases n <;> rfl)

theorem vectorOf_eq (n : ChIdx) : vectorOf n = vectorValue (some n) := by cases n <;> rfl

theorem vectorValue_inj {o p : Option ChIdx} (h : vectorValue o = vectorValue p) : o = p := by
  rw [← ownerOf_vectorValue o, h, ownerOf_vectorValue]

theorem vectorValue_eq_zero {o : Option ChIdx} : vectorValue o = 0#16 ↔ o = none :=
  ⟨fun h => vectorValue_inj (p := none) h, fun h => h ▸ rfl⟩

/-- ACQUIRE (R113) writes `pv`, `irq` and the output trace, and nothing else. -/
theorem State.acquire_eq (s : State) (i : ChIdx) :
    s.acquire i = { s with
      pv := if s.pv = 0#16 ∨ BitVec.ofNat 16 i.num < ownerIndex s.pv then vectorOf i else s.pv
      irq := s.irq || (s.pv == 0#16)
      out := s.out ++ (if s.pv = 0#16 then [s.lineEvent true] else []) } := by
  unfold State.acquire
  split
  · next h => simp [h, State.setLine, State.emit, State.lineEvent]
  · next h =>
    split
    · next hlt => simp [h, hlt]
    · next hge => cases s; simp_all

/-- ACQUIRE of a free vector. -/
theorem State.acquire_free {s : State} (h : s.pv = 0#16) (i : ChIdx) :
    s.acquire i = { s with pv := vectorValue (some i), irq := true, out := s.out ++ [s.lineEvent true] } := by
  simp [State.acquire_eq, h, vectorOf_eq]

/-- The vector after ACQUIRE, for every legal vector. -/
theorem vectorAfterAcquire_eq {pv : Word16} (h : legalVector pv = true) (i : ChIdx) :
    (if pv = 0#16 ∨ BitVec.ofNat 16 i.num < ownerIndex pv then vectorOf i else pv) = vectorAfterAcquire pv i := by
  obtain ⟨o, rfl⟩ := legalVector_cases h
  rcases o with _ | n
  · cases i <;> rfl
  · cases n <;> cases i <;> rfl

@[simp] theorem vectorAfterAcquire_legal {pv : Word16} (h : legalVector pv = true) (i : ChIdx) :
    legalVector (vectorAfterAcquire pv i) = true := by
  unfold vectorAfterAcquire
  split
  · simp
  · exact h

/-- A channel after RELEASE, for any value of the vector. -/
def State.chAfterRelease (s : State) (n : ChIdx) : Channel :=
  if ownerOf s.pv = some n then (s.ch n).clearFlag else s.ch n

/-- The channel the rescan finds, for any value of the vector. -/
def State.waitingAfterRelease (s : State) : Option ChIdx :=
  [ChIdx.c0, ChIdx.c1, ChIdx.c2].find? fun n => (s.chAfterRelease n).ie && (s.chAfterRelease n).ifg

theorem State.lowestWaiting_eq (s : State) :
    s.lowestWaiting = if (s.ch0.ifg && s.ch0.ie) = true then some .c0
      else if (s.ch1.ifg && s.ch1.ie) = true then some .c1
      else if (s.ch2.ifg && s.ch2.ie) = true then some .c2 else none := by
  simp only [State.lowestWaiting, List.find?, State.ch]
  cases s.ch0.ifg && s.ch0.ie <;> cases s.ch1.ifg && s.ch1.ie <;> cases s.ch2.ifg && s.ch2.ie <;> rfl

/-- The rescan (R114) from a free vector. -/
theorem State.rescan_eq {s : State} (h : s.pv = 0#16) :
    s.rescan = { s with
      pv := vectorValue s.lowestWaiting
      irq := s.irq || s.lowestWaiting.isSome
      out := s.out ++ (if s.lowestWaiting.isSome then [s.lineEvent true] else []) } := by
  have hs : ∀ c : Channel, c.wantsVector = (c.ifg && c.ie) := fun c => Bool.and_comm _ _
  unfold State.rescan
  rw [State.lowestWaiting_eq, hs, hs, hs]
  by_cases h0 : (s.ch0.ifg && s.ch0.ie) = true
  · simp [h0, State.acquire_free h]
  · by_cases h1 : (s.ch1.ifg && s.ch1.ie) = true
    · simp [h0, h1, State.acquire_free h]
    · by_cases h2 : (s.ch2.ifg && s.ch2.ie) = true
      · simp [h0, h1, h2, State.acquire_free h]
      · simp only [if_neg h0, if_neg h1, if_neg h2, vectorValue, ← h]
        simp

theorem State.ch_clearOwner (s : State) (n : ChIdx) : s.clearOwner.ch n = s.chAfterRelease n := by
  unfold State.clearOwner State.chAfterRelease
  cases ownerOf s.pv with
  | none => simp
  | some o => simp only [State.ch_setCh, Option.some.injEq]; by_cases h : n = o <;> simp [h, eq_comm]

theorem State.clearOwner_eq (s : State) :
    s.clearOwner = { s with
      ch0 := s.chAfterRelease .c0, ch1 := s.chAfterRelease .c1, ch2 := s.chAfterRelease .c2 } := by
  simp only [← State.ch_clearOwner]
  unfold State.clearOwner
  cases ownerOf s.pv with
  | none => rfl
  | some o => cases o <;> rfl

/-- RELEASE (R114) in one formula, for any value of the vector. -/
theorem State.release_eq (s : State) :
    s.release = { s with
      ch0 := s.chAfterRelease .c0
      ch1 := s.chAfterRelease .c1
      ch2 := s.chAfterRelease .c2
      pv := vectorValue s.waitingAfterRelease
      irq := s.waitingAfterRelease.isSome
      out := s.out ++ (s.lineEvent false :: if s.waitingAfterRelease.isSome then [s.lineEvent true] else []) } := by
  have hw : ∀ (t : State), t.ch0 = s.chAfterRelease .c0 → t.ch1 = s.chAfterRelease .c1 → t.ch2 = s.chAfterRelease .c2 →
      t.lowestWaiting = s.waitingAfterRelease := by
    intro t h0 h1 h2
    unfold State.lowestWaiting State.waitingAfterRelease
    congr 1
    funext n
    cases n <;> simp [State.ch, h0, h1, h2, Bool.and_comm]
  unfold State.release
  rw [State.rescan_eq rfl, hw _ (by simp [State.clearOwner_eq]) (by simp [State.clearOwner_eq])
    (by simp [State.clearOwner_eq])]
  simp [State.clearOwner_eq, State.lineEvent, State.setLine, State.emit]

/-- RELEASE never changes what is not the owner's flag, the vector, the line or the trace. -/
theorem State.release_ch (s : State) (n : ChIdx) : s.release.ch n = s.chAfterRelease n := by
  rw [State.release_eq]; cases n <;> rfl

theorem State.releasedCh_eq {s : State} (h : legalVector s.pv = true) (n : ChIdx) : s.releasedCh n = s.chAfterRelease n := by
  obtain ⟨o, ho⟩ := legalVector_cases h
  unfold State.releasedCh State.chAfterRelease
  rw [ho, ownerOf_vectorValue]
  by_cases hn : o = some n
  · simp [hn, Channel.clearFlag]
  · rw [if_neg hn, if_neg fun hv => hn (vectorValue_inj hv)]

/-- For a legal vector RELEASE is the formula of `State.released`. -/
theorem State.release_legal {s : State} (h : legalVector s.pv = true) : s.release = s.released := by
  have hw : s.nextOwner = s.waitingAfterRelease := by
    unfold State.nextOwner State.waitingAfterRelease
    congr 1
    funext n
    rw [State.releasedCh_eq h]
  rw [State.release_eq]
  unfold State.released
  rw [State.releasedCh_eq h, State.releasedCh_eq h, State.releasedCh_eq h, hw]

end Sys2Proof.Machine
end

