-- ==== Sys2Proof/Laws/Channel.lean ====
section
/-! SUPPORT. What a control-register write can do (R81 to R86): its arbiter part and its scheduling part, each said once. -/

namespace Sys2Proof.Machine

/-- RELEASE by a channel whose written flag is 0 leaves that channel as the write made it. -/
theorem Channel.clearFlag_decodeCtl (c : Channel) {v : Word16} (h : v.getLsbD 3 = false) :
    (c.decodeCtl v).clearFlag = c.decodeCtl v := by
  have hv : v &&& 0xFFF7#16 = v := by
    apply BitVec.eq_of_getLsbD_eq
    intro i hi
    rw [BitVec.getLsbD_and]
    have : ∀ j : Fin 16, j ≠ 3 → (0xFFF7#16).getLsbD j.val = true := by decide
    by_cases h3 : i = 3
    · rw [h3, h, Bool.false_and]
    · simp [this ⟨i, hi⟩ (fun e => h3 (congrArg Fin.val e))]
  simp only [Channel.clearFlag, Channel.decodeCtl, hv, h]

/-- The part of CONFIGURE that stores, decodes and drives the arbiter (parts 1 to 4 of R81). -/
def State.configureArbiter (s : State) (n : ChIdx) (v : Word16) : State :=
  ((s.setCh n ((s.ch n).decodeCtl v)).flagClearRelease n v (s.ch n).ie).flagEnableAcquire n v

/-- The three cases of the arbiter part: release by the owner, acquire, or neither. -/
theorem State.configureArbiter_cases (s : State) (n : ChIdx) (v : Word16) :
    (v.getLsbD 3 = false ∧ (s.ch n).ie = true ∧ s.pv = vectorValue (some n) ∧
      s.configureArbiter n v = (s.setCh n ((s.ch n).decodeCtl v)).release) ∨
    (v.getLsbD 3 = true ∧ v.getLsbD 2 = true ∧
      s.configureArbiter n v = (s.setCh n ((s.ch n).decodeCtl v)).acquire n) ∨
    (¬ (v.getLsbD 3 = false ∧ (s.ch n).ie = true ∧ s.pv = vectorValue (some n)) ∧
      ¬ (v.getLsbD 3 = true ∧ v.getLsbD 2 = true) ∧
      s.configureArbiter n v = s.setCh n ((s.ch n).decodeCtl v)) := by
  unfold State.configureArbiter State.flagEnableAcquire State.flagClearRelease
  rw [State.setCh_pv, vectorOf_eq]
  by_cases h1 : v.getLsbD 3 = false ∧ (s.ch n).ie = true ∧ s.pv = vectorValue (some n)
  · have h2 : ¬ (v.getLsbD 3 = true ∧ v.getLsbD 2 = true) := fun h => by rw [h1.1] at h; exact absurd h.1 (by decide)
    exact .inl ⟨h1.1, h1.2.1, h1.2.2, by rw [if_pos h1, if_neg h2]⟩
  · by_cases h2 : v.getLsbD 3 = true ∧ v.getLsbD 2 = true
    · exact .inr (.inl ⟨h2.1, h2.2, by rw [if_neg h1, if_pos h2]⟩)
    · exact .inr (.inr ⟨h1, h2, by rw [if_neg h1, if_neg h2]⟩)

/-- The channels after the arbiter part: the written one decoded, the others kept (R100). -/
theorem State.configureArbiter_ch (s : State) (n m : ChIdx) (v : Word16) :
    (s.configureArbiter n v).ch m = if m = n then (s.ch n).decodeCtl v else s.ch m := by
  obtain ⟨h3, -, hp, h⟩ | ⟨-, -, h⟩ | ⟨-, -, h⟩ := State.configureArbiter_cases s n v
  · rw [h, State.release_ch, State.chAfterRelease, State.setCh_pv, hp, ownerOf_vectorValue, State.ch_setCh]
    by_cases hm : m = n
    · simp [hm, Channel.clearFlag_decodeCtl _ h3]
    · simp [hm, Ne.symm hm]
  · rw [h, State.acquire_eq, ← State.ch_setCh]
    cases m <;> rfl
  · rw [h, State.ch_setCh]

/-- What the arbiter part leaves alone. -/
theorem State.configureArbiter_frame (s : State) (n : ChIdx) (v : Word16) :
    s.configureArbiter n v = { s with
      ch0 := (s.configureArbiter n v).ch0, ch1 := (s.configureArbiter n v).ch1, ch2 := (s.configureArbiter n v).ch2
      pv := (s.configureArbiter n v).pv, irq := (s.configureArbiter n v).irq, out := (s.configureArbiter n v).out } := by
  obtain ⟨-, -, -, h⟩ | ⟨-, -, h⟩ | ⟨-, -, h⟩ := State.configureArbiter_cases s n v <;> rw [h]
  · simp [State.release_eq]
  · simp [State.acquire_eq]
  · cases n <;> rfl

/-- The arming catch-up (R85) makes at most one query and schedules at most one step. -/
theorem State.armingCatchUp_eq (s : State) (n : ChIdx) (v : Word16) (oldEn : Bool) :
    s.armingCatchUp n v oldEn = { s with
      pending := s.pending ++
        (if oldEn = false ∧ v.getLsbD 4 = true ∧ (s.ch n).bound.isSome = true ∧ s.draws.query = true then [n] else [])
      out := s.out ++
        (match (s.ch n).bound with
          | some t => if oldEn = false ∧ v.getLsbD 4 = true then [.query t.provider t.index] else []
          | none => []) ++
        (if oldEn = false ∧ v.getLsbD 4 = true ∧ (s.ch n).bound.isSome = true ∧ s.draws.query = true then
          [.schedule 0#32 n] else []) } := by
  unfold State.armingCatchUp
  generalize v.getLsbD 4 = b4
  cases (s.ch n).bound with
  | none => cases oldEn <;> cases b4 <;> simp
  | some t =>
    cases hq : s.draws.query <;> cases oldEn <;> cases b4 <;> simp [State.emit, State.schedule]

/-- The software request (R86) schedules at most one step. -/
theorem State.softwareRequest_eq (s : State) (n : ChIdx) (v : Word16) :
    s.softwareRequest n v = { s with
      pending := s.pending ++ (if v.getLsbD 0 = true ∧ s.tsel n = 0#5 then [n] else [])
      out := s.out ++ (if v.getLsbD 0 = true ∧ s.tsel n = 0#5 then [.schedule 0#32 n] else []) } := by
  unfold State.softwareRequest
  split <;> simp [State.schedule, State.emit]

/-- Equal control shadows select the same triggers. -/
theorem State.tsel_congr {s t : State} (h0 : t.ctl0 = s.ctl0) (h1 : t.ctl1 = s.ctl1) (n : ChIdx) : t.tsel n = s.tsel n := by
  cases n <;> simp [State.tsel, h0, h1]

/-- Parts 5 and 6 of R81 append to the queue and to the trace and do nothing else. -/
theorem State.configure_eq (s : State) (n : ChIdx) (v : Word16) :
    s.configure n v = { s.configureArbiter n v with
      pending := s.pending ++ List.replicate (s.scheduledBy n v) n
      out := (s.configureArbiter n v).out ++ s.queriedBy n v ++
        List.replicate (s.scheduledBy n v) (.schedule 0#32 n) } := by
  have hc : s.configure n v =
      ((s.configureArbiter n v).armingCatchUp n v (s.ch n).en).softwareRequest n v := rfl
  have hb : ((s.configureArbiter n v).ch n).bound = (s.ch n).bound := by
    rw [State.configureArbiter_ch, if_pos rfl]; rfl
  have hf := State.configureArbiter_frame s n v
  have hd : (s.configureArbiter n v).draws = s.draws := by rw [hf]
  have hp : (s.configureArbiter n v).pending = s.pending := by rw [hf]
  have h0 : (s.configureArbiter n v).ctl0 = s.ctl0 := by rw [hf]
  have h1 : (s.configureArbiter n v).ctl1 = s.ctl1 := by rw [hf]
  have ht : ((s.configureArbiter n v).armingCatchUp n v (s.ch n).en).tsel n = s.tsel n :=
    State.tsel_congr (by rw [State.armingCatchUp_eq]; exact h0) (by rw [State.armingCatchUp_eq]; exact h1) n
  rw [hc, State.softwareRequest_eq, ht, State.armingCatchUp_eq, hb, hd, hp]
  simp only [State.scheduledBy, State.queriedBy, ← hd]
  by_cases ha : (s.ch n).en = false ∧ v.getLsbD 4 = true ∧ (s.ch n).bound.isSome = true ∧
      (s.configureArbiter n v).draws.query = true <;>
    by_cases hs : v.getLsbD 0 = true ∧ s.tsel n = 0#5 <;>
    simp only [if_pos, if_neg, ha, hs, not_false_eq_true, and_self, List.append_assoc, List.append_nil, List.nil_append,
      List.cons_append, List.replicate, Nat.zero_add, Nat.add_zero, Nat.reduceAdd] <;> rfl

end Sys2Proof.Machine
end

