-- ==== Sys2Proof/Laws/Decode.lean ====
section
/-! SUPPORT. The decoder and the encoder, said once by KIND and X (R63, R71), and the case split of operations into register
reads, register writes and the four others. -/

namespace Sys2Proof.Machine

/-- The register map R19: the offset of a register. -/
def offsetOf : Reg → BitVec 7
  | .global .ctl0 => 0x00#7
  | .global .ctl1 => 0x02#7
  | .global .ctl2 => 0x04#7
  | .global .ctl3 => 0x06#7
  | .global .ctl4 => 0x08#7
  | .global .iv => 0x0E#7
  | .channel n .ctl => baseOffset n + 0x0#7
  | .channel n .sal => baseOffset n + 0x2#7
  | .channel n .sah => baseOffset n + 0x4#7
  | .channel n .dal => baseOffset n + 0x6#7
  | .channel n .dah => baseOffset n + 0x8#7
  | .channel n .sz => baseOffset n + 0xA#7

/-- The register an offset decodes to has that offset. -/
theorem offsetOf_regAt {x : BitVec 7} {r : Reg} (h : regAt x = some r) : offsetOf r = x := by
  have : ∀ x : BitVec 7, (regAt x).all (fun r => offsetOf r == x) = true := by decide
  simpa [h] using this x

/-- Every operation is a register read, a register write, FIRE, BIND, STEP or RESET. -/
inductive Shape : Instr → Prop where
  | rd (r : Reg) (w : Width) : Shape (.rd r w)
  | wr (r : Reg) (w : Width) (d : Word16) : Shape (.wr r w d)
  | fire (p : Provider) (k : Byte) : Shape (.fire p k)
  | bind (t : BitVec 7) (p : Provider) (k : Byte) : Shape (.bind t p k)
  | step : Shape .step
  | reset : Shape .reset

theorem instr_shape (i : Instr) : Shape i := by
  cases i
  case rdDmactl0 w => exact .rd (.global .ctl0) w
  case wrDmactl0 w d => exact .wr (.global .ctl0) w d
  case rdDmactl1 w => exact .rd (.global .ctl1) w
  case wrDmactl1 w d => exact .wr (.global .ctl1) w d
  case rdDmactl2 w => exact .rd (.global .ctl2) w
  case wrDmactl2 w d => exact .wr (.global .ctl2) w d
  case rdDmactl3 w => exact .rd (.global .ctl3) w
  case wrDmactl3 w d => exact .wr (.global .ctl3) w d
  case rdDmactl4 w => exact .rd (.global .ctl4) w
  case wrDmactl4 w d => exact .wr (.global .ctl4) w d
  case rdDmaiv w => exact .rd (.global .iv) w
  case wrDmaiv w d => exact .wr (.global .iv) w d
  case rdDma0ctl w => exact .rd (.channel .c0 .ctl) w
  case wrDma0ctl w d => exact .wr (.channel .c0 .ctl) w d
  case rdDma0sal w => exact .rd (.channel .c0 .sal) w
  case wrDma0sal w d => exact .wr (.channel .c0 .sal) w d
  case rdDma0sah w => exact .rd (.channel .c0 .sah) w
  case wrDma0sah w d => exact .wr (.channel .c0 .sah) w d
  case rdDma0dal w => exact .rd (.channel .c0 .dal) w
  case wrDma0dal w d => exact .wr (.channel .c0 .dal) w d
  case rdDma0dah w => exact .rd (.channel .c0 .dah) w
  case wrDma0dah w d => exact .wr (.channel .c0 .dah) w d
  case rdDma0sz w => exact .rd (.channel .c0 .sz) w
  case wrDma0sz w d => exact .wr (.channel .c0 .sz) w d
  case rdDma1ctl w => exact .rd (.channel .c1 .ctl) w
  case wrDma1ctl w d => exact .wr (.channel .c1 .ctl) w d
  case rdDma1sal w => exact .rd (.channel .c1 .sal) w
  case wrDma1sal w d => exact .wr (.channel .c1 .sal) w d
  case rdDma1sah w => exact .rd (.channel .c1 .sah) w
  case wrDma1sah w d => exact .wr (.channel .c1 .sah) w d
  case rdDma1dal w => exact .rd (.channel .c1 .dal) w
  case wrDma1dal w d => exact .wr (.channel .c1 .dal) w d
  case rdDma1dah w => exact .rd (.channel .c1 .dah) w
  case wrDma1dah w d => exact .wr (.channel .c1 .dah) w d
  case rdDma1sz w => exact .rd (.channel .c1 .sz) w
  case wrDma1sz w d => exact .wr (.channel .c1 .sz) w d
  case rdDma2ctl w => exact .rd (.channel .c2 .ctl) w
  case wrDma2ctl w d => exact .wr (.channel .c2 .ctl) w d
  case rdDma2sal w => exact .rd (.channel .c2 .sal) w
  case wrDma2sal w d => exact .wr (.channel .c2 .sal) w d
  case rdDma2sah w => exact .rd (.channel .c2 .sah) w
  case wrDma2sah w d => exact .wr (.channel .c2 .sah) w d
  case rdDma2dal w => exact .rd (.channel .c2 .dal) w
  case wrDma2dal w d => exact .wr (.channel .c2 .dal) w d
  case rdDma2dah w => exact .rd (.channel .c2 .dah) w
  case wrDma2dah w d => exact .wr (.channel .c2 .dah) w d
  case rdDma2sz w => exact .rd (.channel .c2 .sz) w
  case wrDma2sz w d => exact .wr (.channel .c2 .sz) w d
  case fire p k => exact .fire p k
  case bind t p k => exact .bind t p k
  case step => exact .step
  case reset => exact .reset

/-- The two fields of an operation word put together. -/
@[simp] theorem kindOf_append (k : BitVec 3) (x : BitVec 7) : kindOf (k ++ x) = k := by
  revert k x; decide

@[simp] theorem xOf_append (k : BitVec 3) (x : BitVec 7) : xOf (k ++ x) = x := by
  revert k x; decide

/-- An operation word is its two fields. -/
theorem kindOf_append_xOf (w : BitVec 10) : kindOf w ++ xOf w = w := by
  revert w; decide

/-- The register map read back: every register's offset decodes to it. -/
@[simp] theorem regAt_offsetOf (r : Reg) : regAt (offsetOf r) = some r := by
  rcases r with r | ⟨n, r⟩
  · cases r <;> decide
  · cases n <;> cases r <;> decide

/-- The word of a register read: KIND 000 and the register's offset. -/
theorem encode_rd (r : Reg) (w : Width) : encode (.rd r w) = rdOp (0b000#3 ++ offsetOf r) w := by
  rcases r with r | ⟨n, r⟩
  · cases r <;> rfl
  · cases n <;> cases r <;> rfl

/-- The word of a register write: KIND 001 and the register's offset. -/
theorem encode_wr (r : Reg) (w : Width) (d : Word16) : encode (.wr r w d) = wrOp (0b001#3 ++ offsetOf r) w d := by
  rcases r with r | ⟨n, r⟩
  · cases r <;> rfl
  · cases n <;> cases r <;> rfl

/-- Decoding a register read at an offset. -/
theorem decode_rd (x : BitVec 7) (w : Width) (d : Word16) (p : Provider) (k : Byte) :
    decode ⟨0b000#3 ++ x, w, d, p, k⟩ = match regAt x with | some r => .instr (.rd r w) | none => .configAddr x := by
  unfold decode; rw [kindOf_append, xOf_append]; rfl

/-- Decoding a register write at an offset. -/
theorem decode_wr (x : BitVec 7) (w : Width) (d : Word16) (p : Provider) (k : Byte) :
    decode ⟨0b001#3 ++ x, w, d, p, k⟩ = match regAt x with | some r => .instr (.wr r w d) | none => .configAddr x := by
  unfold decode; rw [kindOf_append, xOf_append]; rfl

/-- Decoding FIRE's KIND. -/
theorem decode_fire (x : BitVec 7) (w : Width) (d : Word16) (p : Provider) (k : Byte) :
    decode ⟨0b010#3 ++ x, w, d, p, k⟩ = if x = 0#7 then .instr (.fire p k) else .reserved (0b010#3 ++ x) := by
  unfold decode; rw [kindOf_append, xOf_append]; rfl

/-- Decoding BIND's KIND. -/
theorem decode_bind (x : BitVec 7) (w : Width) (d : Word16) (p : Provider) (k : Byte) :
    decode ⟨0b011#3 ++ x, w, d, p, k⟩ = if x.toNat ≤ 31 then .instr (.bind x p k) else .bindRange x := by
  unfold decode; rw [kindOf_append, xOf_append]; rfl

/-- Decoding STEP's KIND. -/
theorem decode_step (x : BitVec 7) (w : Width) (d : Word16) (p : Provider) (k : Byte) :
    decode ⟨0b100#3 ++ x, w, d, p, k⟩ = if x = 0#7 then .instr .step else .reserved (0b100#3 ++ x) := by
  unfold decode; rw [kindOf_append, xOf_append]; rfl

/-- Decoding RESET's KIND. -/
theorem decode_reset (x : BitVec 7) (w : Width) (d : Word16) (p : Provider) (k : Byte) :
    decode ⟨0b101#3 ++ x, w, d, p, k⟩ = if x = 0#7 then .instr .reset else .reserved (0b101#3 ++ x) := by
  unfold decode; rw [kindOf_append, xOf_append]; rfl

/-- Decoding the two KINDs that name nothing. -/
theorem decode_reservedKind (kind : BitVec 3) (h : kind = 0b110#3 ∨ kind = 0b111#3) (x : BitVec 7) (w : Width) (d : Word16)
    (p : Provider) (k : Byte) : decode ⟨kind ++ x, w, d, p, k⟩ = .reserved (kind ++ x) := by
  unfold decode; rw [kindOf_append, xOf_append]; rcases h with rfl | rfl <;> rfl

/-- The eight KINDs. -/
theorem kind_cases (k : BitVec 3) : k = 0b000#3 ∨ k = 0b001#3 ∨ k = 0b010#3 ∨ k = 0b011#3 ∨ k = 0b100#3 ∨ k = 0b101#3 ∨
    k = 0b110#3 ∨ k = 0b111#3 := by revert k; decide

/-- The number of an operation word, by its fields. -/
theorem opWord_toNat (k : BitVec 3) (x : BitVec 7) : (k ++ x).toNat = k.toNat * 128 + x.toNat := by
  revert k x; decide

end Sys2Proof.Machine
end

