-- ==== Sys2Proof/Laws/Memory.lean ====
section
/-! SUPPORT. The laws of the bus memory: a read after a write, and that every memory operation keeps the canonical form. -/

namespace Sys2Proof.Machine

theorem Mem.wfFrom_mono {lo hi : Nat} (h : lo ≤ hi) : ∀ {m : List Host.Cell}, Mem.wfFrom hi m = true → Mem.wfFrom lo m = true
  | [], _ => rfl
  | (a, v) :: m, w => by
    simp only [Mem.wfFrom, Bool.and_eq_true, decide_eq_true_eq] at w ⊢
    exact ⟨⟨⟨h.trans w.1.1.1, w.1.1.2⟩, w.1.2⟩, w.2⟩

/-- Below its first address a canonical memory lists nothing. -/
theorem Mem.read_of_lt : ∀ {m : List Host.Cell} {lo a : Nat}, Mem.wfFrom lo m = true → a < lo → Mem.read m a = Mem.unlisted
  | [], _, _, _, _ => rfl
  | (b, v) :: m, lo, a, w, h => by
    simp only [Mem.wfFrom, Bool.and_eq_true, decide_eq_true_eq] at w
    have hb : a ≠ b := by omega
    simp only [Mem.read, hb, if_false]
    exact Mem.read_of_lt w.2 (by omega)

/-- Putting a cell in front of a memory that lists nothing at its address. -/
theorem Mem.read_cons {m : List Host.Cell} {a : Nat} (v : Byte) (b : Nat) (h : Mem.read m a = Mem.unlisted) :
    Mem.read (Mem.cons a v m) b = if b = a then v else Mem.read m b := by
  unfold Mem.cons
  split
  · next hv => split <;> simp_all
  · rfl

/-- A write changes the byte written and no other. -/
theorem Mem.read_write : ∀ {m : List Host.Cell} {lo : Nat} (a b : Nat) (v : Byte), Mem.wfFrom lo m = true →
    Mem.read (Mem.write m a v) b = if b = a then v else Mem.read m b
  | [], _, a, b, v, _ => by rw [Mem.write, Mem.read_cons _ _ rfl]
  | (c, u) :: m, lo, a, b, v, w => by
    have hw := w
    simp only [Mem.wfFrom, Bool.and_eq_true, decide_eq_true_eq] at w
    unfold Mem.write
    split
    · next h =>
      refine Mem.read_cons _ _ ?_
      have hne : a ≠ c := by omega
      simp only [Mem.read, hne, if_false]
      exact Mem.read_of_lt w.2 (by omega)
    · split
      · next h =>
        subst h
        rw [Mem.read_cons _ _ (Mem.read_of_lt w.2 (by omega))]
        by_cases hb : b = a <;> simp [Mem.read, hb]
      · next h1 h2 =>
        simp only [Mem.read, Mem.read_write a b v w.2]
        by_cases hb : b = c
        · have : b ≠ a := by omega
          simp [hb, Ne.symm h2]
        · simp [hb]

theorem Mem.cons_wf {m : List Host.Cell} {lo a : Nat} (v : Byte) (h : lo ≤ a) (ha : a < 0x100000)
    (w : Mem.wfFrom (a + 1) m = true) : Mem.wfFrom lo (Mem.cons a v m) = true := by
  unfold Mem.cons
  split
  · exact Mem.wfFrom_mono (by omega) w
  · next hv => simp [Mem.wfFrom, h, ha, hv, w]

theorem Mem.write_wfFrom : ∀ {m : List Host.Cell} {lo a : Nat} (v : Byte), lo ≤ a → a < 0x100000 →
    Mem.wfFrom lo m = true → Mem.wfFrom lo (Mem.write m a v) = true
  | [], _, _, v, h, ha, _ => Mem.cons_wf v h ha rfl
  | (c, u) :: m, lo, a, v, h, ha, w => by
    have hw := w
    simp only [Mem.wfFrom, Bool.and_eq_true, decide_eq_true_eq] at w
    unfold Mem.write
    split
    · next hlt =>
      refine Mem.cons_wf v h ha ?_
      simp [Mem.wfFrom, w.1.1.2, w.1.2, w.2, Nat.succ_le_of_lt hlt]
    · split
      · next heq => exact Mem.cons_wf v h ha (heq ▸ w.2)
      · next h1 h2 =>
        have := Mem.write_wfFrom v (show c + 1 ≤ a by omega) ha w.2
        simp [Mem.wfFrom, w.1.1.1, w.1.1.2, w.1.2, this]

/-- A store keeps the canonical form. -/
theorem Mem.write_wf {m : List Host.Cell} (a : Addr) (v : Byte) (w : Mem.wf m = true) : Mem.wf (Mem.write m a.toNat v) = true :=
  Mem.write_wfFrom v (Nat.zero_le _) a.isLt w

/-- Stores of other masters keep the canonical form. -/
theorem storeAll_wf : ∀ (l : List (Addr × Byte)) {m : List Host.Cell}, Mem.wf m = true → Mem.wf (storeAll m l) = true
  | [], _, w => w
  | (a, v) :: l, _, w => storeAll_wf l (Mem.write_wf a v w)

/-- The read of one byte after the store of one byte. -/
theorem State.readByte_storeByte {s : State} (w : Mem.wf s.mem = true) (a b : Addr) (v : Byte) :
    (s.storeByte a v).readByte b = if b = a then v else s.readByte b := by
  simp only [State.readByte, State.storeByte, Mem.read_write _ _ _ w, BitVec.toNat_inj]

end Sys2Proof.Machine
end

