-- ==== Sys2Proof/Laws/Transfer.lean ====
section
/-! SUPPORT. Everything a STEP can do (R104 to R112), said once: the six ways it ends, and the three ways a completed
transfer leaves its channel. -/

namespace Sys2Proof.Machine

/-- The state after the bus part of a transfer of channel n that did not fail. -/
def State.afterBus (s : State) (n : ChIdx) : State :=
  ((s.emit (.busRead (s.ch n).cs)).emit (.busWrite (s.ch n).cd (s.readByte (s.ch n).cs))).storeByte (s.ch n).cd
    (s.readByte (s.ch n).cs)

@[simp] theorem State.ch_afterBus (s : State) (n m : ChIdx) : (s.afterBus n).ch m = s.ch m := by simp [State.afterBus]

/-- How a STEP on a queue with head n ends. -/
inductive StepEnd (s : State) (n : ChIdx) (rest : List ChIdx) : State → Prop where
  /-- R109 -/
  | disabled (en : (s.ch n).en = false) : StepEnd s n rest { s with pending := rest }
  /-- R110 -/
  | zeroSize (en : (s.ch n).en = true) (size : (s.ch n).size = 0#16) : StepEnd s n rest (s.raise (.zeroSize n))
  /-- R111 -/
  | selfAccess (en : (s.ch n).en = true) (size : (s.ch n).size ≠ 0#16)
      (window : s.inWindow (s.ch n).cs = true ∨ s.inWindow (s.ch n).cd = true) :
      StepEnd s n rest (s.raise (.selfAccess n (s.ch n).cs (s.ch n).cd))
  /-- R112, the read -/
  | readFailed (en : (s.ch n).en = true) (size : (s.ch n).size ≠ 0#16)
      (window : ¬ (s.inWindow (s.ch n).cs = true ∨ s.inWindow (s.ch n).cd = true)) (read : s.draws.readFails = true) :
      StepEnd s n rest ((s.emit (.busRead (s.ch n).cs)).raise (.busError (s.ch n).cs))
  /-- R112, the write -/
  | writeFailed (en : (s.ch n).en = true) (size : (s.ch n).size ≠ 0#16)
      (window : ¬ (s.inWindow (s.ch n).cs = true ∨ s.inWindow (s.ch n).cd = true)) (read : s.draws.readFails = false)
      (write : s.draws.writeFails = true) :
      StepEnd s n rest (((s.emit (.busRead (s.ch n).cs)).emit (.busWrite (s.ch n).cd (s.readByte (s.ch n).cs))).raise
        (.busError (s.ch n).cd))
  /-- R104 parts 2 to 5 -/
  | moved (en : (s.ch n).en = true) (size : (s.ch n).size ≠ 0#16)
      (window : ¬ (s.inWindow (s.ch n).cs = true ∨ s.inWindow (s.ch n).cd = true)) (read : s.draws.readFails = false)
      (write : s.draws.writeFails = false) :
      StepEnd s n rest { (s.afterBus n).advance n with pending := rest }

/-- A STEP without a fault mark, on a queue that is not empty, ends in one of the six ways. -/
theorem execStep_end {s : State} {n : ChIdx} {rest : List ChIdx} (hf : s.fault = none) (hp : s.pending = n :: rest) :
    ∃ t, execStep s = .next t ∧ StepEnd s n rest t := by
  unfold execStep
  rw [State.accept_none hf, hp]
  unfold State.transfer
  by_cases he : (s.ch n).en = false
  · exact ⟨_, by simp only [if_pos he], .disabled he⟩
  · have he' : (s.ch n).en = true := by simpa using he
    by_cases hz : (s.ch n).size = 0#16
    · exact ⟨_, by simp only [if_neg he, if_pos hz], .zeroSize he' hz⟩
    · by_cases hw : s.inWindow (s.ch n).cs = true ∨ s.inWindow (s.ch n).cd = true
      · exact ⟨_, by simp only [if_neg he, if_neg hz, if_pos hw], .selfAccess he' hz hw⟩
      · simp only [if_neg he, if_neg hz, if_neg hw, State.moveByte, State.memRead]
        cases hr : s.draws.readFails with
        | true => exact ⟨_, rfl, .readFailed he' hz hw hr⟩
        | false =>
          have hd : (s.emit (.busRead (s.ch n).cs)).draws.writeFails = s.draws.writeFails := rfl
          cases hv : s.draws.writeFails with
          | true => exact ⟨_, by simp [State.memWrite, hv], .writeFailed he' hz hw hr hv⟩
          | false => exact ⟨_, by simp only [State.memWrite, hd, hv, Bool.false_eq_true, if_false]; rfl, .moved he' hz hw hr hv⟩

/-- Everything a STEP that answers a next state did. -/
theorem execStep_cases {s t : State} (h : execStep s = .next t) :
    s.fault = none ∧ ∃ n rest, s.pending = n :: rest ∧ StepEnd s n rest t := by
  have hf := (State.accept_next h).1
  refine ⟨hf, ?_⟩
  cases hp : s.pending with
  | nil => rw [execStep, State.accept_none hf, hp] at h; cases h
  | cons n rest =>
    obtain ⟨u, hu, he⟩ := execStep_end hf hp
    obtain rfl : u = t := by rw [hu] at h; cases h; rfl
    exact ⟨n, rest, rfl, he⟩

/-- The three ways a completed transfer leaves its channel: the block goes on, or it ends with or without an ACQUIRE. -/
theorem State.advance_cases (s : State) (n : ChIdx) :
    ((s.ch n).size - 1#16 ≠ 0#16 ∧ s.advance n = s.setCh n (s.ch n).countDown) ∨
    ((s.ch n).size - 1#16 = 0#16 ∧ (s.ch n).ie = true ∧
      s.advance n = (s.setCh n (s.ch n).countDown.reload).acquire n) ∨
    ((s.ch n).size - 1#16 = 0#16 ∧ (s.ch n).ie = false ∧ s.advance n = s.setCh n (s.ch n).countDown.reload) := by
  unfold State.advance State.endBlock
  rw [show (s.ch n).countDown.size = (s.ch n).size - 1#16 from rfl]
  by_cases h : (s.ch n).size - 1#16 = 0#16
  · rw [if_pos h, State.ch_setCh_self, show (s.ch n).countDown.ie = (s.ch n).ie from rfl]
    cases hi : (s.ch n).ie with
    | true => exact .inr (.inl ⟨h, rfl, by simp⟩)
    | false => exact .inr (.inr ⟨h, rfl, by simp⟩)
  · exact .inl ⟨h, by rw [if_neg h]⟩

/-- The channels after the counters of a transfer: another channel is kept. -/
theorem State.advance_ch (s : State) (n m : ChIdx) :
    (s.advance n).ch m = if m = n then
      (if (s.ch n).size - 1#16 = 0#16 then (s.ch n).countDown.reload else (s.ch n).countDown) else s.ch m := by
  have ha : ∀ (t : State), (t.acquire n).ch m = t.ch m := by
    intro t; rw [State.acquire_eq]; cases m <;> rfl
  obtain ⟨h, e⟩ | ⟨h, -, e⟩ | ⟨h, -, e⟩ := State.advance_cases s n <;> rw [e]
  · rw [State.ch_setCh, if_neg h]
  · rw [ha, State.ch_setCh, if_pos h]
  · rw [State.ch_setCh, if_pos h]

/-- What the counters of a transfer leave alone. -/
theorem State.advance_frame (s : State) (n : ChIdx) :
    s.advance n = { s with
      ch0 := (s.advance n).ch0, ch1 := (s.advance n).ch1, ch2 := (s.advance n).ch2
      pv := (s.advance n).pv, irq := (s.advance n).irq, out := (s.advance n).out } := by
  obtain ⟨-, h⟩ | ⟨-, -, h⟩ | ⟨-, -, h⟩ := State.advance_cases s n <;> rw [h]
  · cases n <;> rfl
  · rw [State.acquire_eq]; cases n <;> rfl
  · cases n <;> rfl

/-- The window of R53 in natural numbers. -/
theorem State.inWindow_eq (s : State) (a : Addr) : s.inWindow a = s.ownWindow a := by
  unfold State.inWindow State.ownWindow
  congr 1
  rw [BitVec.lt_def, BitVec.toNat_sub]
  have := s.platform.base.isLt
  have := a.isLt
  simp only [BitVec.toNat_ofNat, eq_iff_iff]
  omega

end Sys2Proof.Machine
end

