-- ==== Sys2Proof/Laws/Exec.lean ====
section
/-! SUPPORT. What `exec` can do, said once for all operations: register reads and writes by register, and the four other
operations. -/

namespace Sys2Proof.Machine

/-- What a read of a register leaves. -/
def State.readEffect (s : State) : Reg → State
  | .global .ctl0 => s.returnData s.ctl0
  | .global .ctl1 => s.returnData s.ctl1
  | .global .ctl2 => s.returnData s.ctl2
  | .global .ctl3 => s.returnData s.ctl3
  | .global .ctl4 => s.returnData s.ctl4
  | .global .iv => (s.returnData s.pv).release
  | .channel n .ctl => s.returnData (s.ch n).readCtl
  | .channel n .sal => s.returnData (lowOf (s.ch n).sa)
  | .channel n .sah => s.returnData (highOf (s.ch n).sa)
  | .channel n .dal => s.returnData (lowOf (s.ch n).da)
  | .channel n .dah => s.returnData (highOf (s.ch n).da)
  | .channel n .sz => s.returnData (s.ch n).size

/-- What a write of a register leaves. -/
def State.writeEffect (s : State) (d : Word16) : Reg → State
  | .global .ctl0 => ({ s with ctl0 := d }.bindChannel .c0 (d.extractLsb' 0 5)).bindChannel .c1 (d.extractLsb' 8 5)
  | .global .ctl1 => { s with ctl1 := d }.bindChannel .c2 (d.extractLsb' 0 5)
  | .global .ctl2 => { s with ctl2 := d }
  | .global .ctl3 => { s with ctl3 := d }
  | .global .ctl4 => { s with ctl4 := d }
  | .global .iv => s.release
  | .channel n .ctl => s.configure n d
  | .channel n .sal => s.setCh n ((s.ch n).setSource (withLow (s.ch n).sa d))
  | .channel n .sah => s.setCh n ((s.ch n).setSource (withHigh (s.ch n).sa d))
  | .channel n .dal => s.setCh n ((s.ch n).setDestination (withLow (s.ch n).da d))
  | .channel n .dah => s.setCh n ((s.ch n).setDestination (withHigh (s.ch n).da d))
  | .channel n .sz => s.setCh n ((s.ch n).setSize d)

theorem exec_rd (r : Reg) (w : Width) (s : State) : exec (.rd r w) s = s.portAccess (offsetOf r) w (s.readEffect r) := by
  rcases r with r | ⟨n, r⟩
  · cases r <;> rfl
  · cases n <;> cases r <;> rfl

theorem exec_wr (r : Reg) (w : Width) (d : Word16) (s : State) :
    exec (.wr r w d) s = s.portAccess (offsetOf r) w (s.writeEffect d r) := by
  rcases r with r | ⟨n, r⟩
  · cases r <;> rfl
  · cases n <;> cases r <;> rfl

/-- A word read of a register completes with the register's read effect. -/
theorem exec_rd_word {s : State} (h : s.fault = none) (r : Reg) : exec (.rd r .word) s = .next (s.readEffect r) := by
  rw [exec_rd, State.portAccess_word h]

/-- A word write of a register completes with the register's write effect. -/
theorem exec_wr_word {s : State} (h : s.fault = none) (r : Reg) (d : Word16) :
    exec (.wr r .word d) s = .next (s.writeEffect d r) := by
  rw [exec_wr, State.portAccess_word h]

/-- FIRE in one formula (R137, R138). -/
theorem execFire_eq {s : State} (h : s.fault = none) (p : Provider) (k : Byte) :
    execFire p k s = .next { s with
      pending := s.pending ++ [ChIdx.c0, .c1, .c2].filter fun n => decide ((s.ch n).bound = some ⟨p, k⟩)
      out := s.out ++ ([ChIdx.c0, .c1, .c2].filter fun n => decide ((s.ch n).bound = some ⟨p, k⟩)).map
        fun n => .schedule 0#32 n } := by
  have hf : ∀ (u : State) (n m : ChIdx) (t : Trigger), (u.fireChannel t n).ch m = u.ch m := by
    intro u n m t; unfold State.fireChannel; split <;> simp
  unfold execFire
  rw [State.accept_none h, State.fireChannel, hf, hf, State.fireChannel, hf, State.fireChannel]
  by_cases h0 : (s.ch .c0).bound = some ⟨p, k⟩ <;> by_cases h1 : (s.ch .c1).bound = some ⟨p, k⟩ <;>
    by_cases h2 : (s.ch .c2).bound = some ⟨p, k⟩ <;>
    simp [h0, h1, h2, List.filter, State.schedule, State.emit]

/-- Everything BIND can do (R140). -/
theorem execBind_cases {s t : State} {e : BitVec 7} {p : Provider} {k : Byte} (h : execBind e p k s = .next t) :
    s.fault = none ∧ (31 < e.toNat ∧ t = s.raise (.bindRange e) ∨
      e.toNat ≤ 31 ∧ t = (s.setTable (e.setWidth 5) (some ⟨p, k⟩)).emit (.registerDMA p)) := by
  obtain ⟨hf, h⟩ := State.accept_next h
  refine ⟨hf, ?_⟩
  by_cases he : e.toNat > 31
  · rw [if_pos he] at h; exact .inl ⟨he, by cases h; rfl⟩
  · rw [if_neg he] at h; exact .inr ⟨by omega, by cases h; rfl⟩

/-- RESET in one formula (R164). -/
theorem execReset_eq {s : State} (h : s.fault = none) :
    execReset s = .next { s.chipReset with out := s.out ++ (if s.irq then [s.lineEvent false] else []) } := by
  unfold execReset
  rw [State.accept_none h]
  cases hi : s.irq <;> simp [State.setLine, State.emit, State.lineEvent, State.chipReset]

/-- No operation runs in a faulted state (R144). -/
theorem exec_faulted {s : State} {m : FaultMark} (h : s.fault = some m) (i : Instr) : exec i s = .fault (.faulted m) := by
  cases instr_shape i with
  | rd r w => rw [exec_rd]; exact State.accept_some h _
  | wr r w d => rw [exec_wr]; exact State.accept_some h _
  | fire p k => exact State.accept_some h _
  | bind t p k => exact State.accept_some h _
  | step => exact State.accept_some h _
  | reset => exact State.accept_some h _

/-- An operation that answered a next state found no fault mark. -/
theorem exec_next_fault {i : Instr} {s t : State} (h : exec i s = .next t) : s.fault = none := by
  cases hf : s.fault with
  | none => rfl
  | some m => rw [exec_faulted hf] at h; cases h

/-- Everything an operation that answers a next state can have done. -/
inductive OpEnd (s : State) : Instr → State → Prop where
  | read (r : Reg) : OpEnd s (.rd r .word) (s.readEffect r)
  | write (r : Reg) (d : Word16) : OpEnd s (.wr r .word d) (s.writeEffect d r)
  | byteRead (r : Reg) : OpEnd s (.rd r .byte) (s.raise (.accessWidth (s.busAddr (offsetOf r)) .byte))
  | byteWrite (r : Reg) (d : Word16) : OpEnd s (.wr r .byte d) (s.raise (.accessWidth (s.busAddr (offsetOf r)) .byte))
  | fire (p : Provider) (k : Byte) : OpEnd s (.fire p k) { s with
      pending := s.pending ++ [ChIdx.c0, .c1, .c2].filter fun n => decide ((s.ch n).bound = some ⟨p, k⟩)
      out := s.out ++ ([ChIdx.c0, .c1, .c2].filter fun n => decide ((s.ch n).bound = some ⟨p, k⟩)).map
        fun n => .schedule 0#32 n }
  | bindRange (e : BitVec 7) (p : Provider) (k : Byte) (range : 31 < e.toNat) :
      OpEnd s (.bind e p k) (s.raise (.bindRange e))
  | bind (e : BitVec 7) (p : Provider) (k : Byte) (range : e.toNat ≤ 31) :
      OpEnd s (.bind e p k) ((s.setTable (e.setWidth 5) (some ⟨p, k⟩)).emit (.registerDMA p))
  | step (n : ChIdx) (rest : List ChIdx) (t : State) (queue : s.pending = n :: rest) (ends : StepEnd s n rest t) :
      OpEnd s .step t
  | reset : OpEnd s .reset { s.chipReset with out := s.out ++ (if s.irq then [s.lineEvent false] else []) }

theorem exec_end {i : Instr} {s t : State} (h : exec i s = .next t) : s.fault = none ∧ OpEnd s i t := by
  have hf := exec_next_fault h
  refine ⟨hf, ?_⟩
  cases instr_shape i with
  | rd r w =>
    rw [exec_rd] at h
    obtain ⟨rfl, rfl⟩ | ⟨rfl, rfl⟩ := (State.portAccess_next h).2
    · exact .read r
    · exact .byteRead r
  | wr r w d =>
    rw [exec_wr] at h
    obtain ⟨rfl, rfl⟩ | ⟨rfl, rfl⟩ := (State.portAccess_next h).2
    · exact .write r d
    · exact .byteWrite r d
  | fire p k =>
    have e := (execFire_eq hf p k).symm.trans h
    cases e
    exact .fire p k
  | bind e p k =>
    obtain ⟨hr, rfl⟩ | ⟨hr, rfl⟩ := (execBind_cases h).2
    · exact .bindRange e p k hr
    · exact .bind e p k hr
  | step =>
    obtain ⟨-, n, rest, hp, he⟩ := execStep_cases h
    exact .step n rest t hp he
  | reset =>
    have e := (execReset_eq hf).symm.trans h
    cases e
    exact .reset

/-- A channel after a word read: only a DMAIV read touches one, the owner. -/
theorem State.readEffect_ch (s : State) (r : Reg) (m : ChIdx) :
    (s.readEffect r).ch m = if r = .global .iv then s.chAfterRelease m else s.ch m := by
  rcases r with r | ⟨n, r⟩
  · cases r <;> simp only [State.readEffect, State.ch_returnData, State.release_ch, reduceCtorEq, Reg.global.injEq, if_true,
      if_false]
    cases m <;> rfl
  · cases r <;> simp [State.readEffect]

/-- A channel after a control-register write (R82, R100, R103). -/
theorem State.configure_ch (s : State) (n m : ChIdx) (v : Word16) :
    (s.configure n v).ch m = if m = n then (s.ch n).decodeCtl v else s.ch m := by
  rw [← State.configureArbiter_ch, State.configure_eq]
  cases m <;> rfl

end Sys2Proof.Machine
end

