-- ==== Sys2Proof/Laws/Operands.lean ====
section
/-! SUPPORT. The operand forms said in natural numbers or bit by bit: address assembly (R75), control-word read (R77),
field decode (R24, R72, R73), trigger select (R74), cursor steps (R106), and the trace's line level. -/

namespace Sys2Proof.Machine

/-- R77, bit by bit: the stored word, bit 3 replaced by the live flag. -/
theorem Channel.readCtl_getLsbD (c : Channel) (b : Nat) :
    c.readCtl.getLsbD b = if b = 3 then c.ifg else c.cw.getLsbD b := by
  unfold Channel.readCtl
  by_cases hb : b < 16
  · have hm : ∀ j : Fin 16, (0xFFF7#16).getLsbD j.val = decide (j.val ≠ 3) := by decide
    have hf : ∀ (x : Bool) (j : Fin 16),
        ((BitVec.ofBool x).setWidth 16 <<< 3).getLsbD j.val = (x && decide (j.val = 3)) := by decide
    rw [BitVec.getLsbD_or, BitVec.getLsbD_and, hm ⟨b, hb⟩, hf _ ⟨b, hb⟩]
    by_cases h3 : b = 3 <;> simp [h3]
  · rw [if_neg (by omega), BitVec.getLsbD_of_ge _ _ (by omega), BitVec.getLsbD_of_ge _ _ (by omega)]

/-- R75: the low half of an address. -/
theorem lowOf_eq (a : Addr) : lowOf a = BitVec.ofNat 16 (a.toNat % 0x10000) := by
  apply BitVec.eq_of_toNat_eq
  simp [lowOf, BitVec.extractLsb']

/-- R75: the high bits of an address. -/
theorem highOf_eq (a : Addr) : highOf a = BitVec.ofNat 16 (a.toNat / 0x10000) := by
  apply BitVec.eq_of_toNat_eq
  have := a.isLt
  simp [highOf, BitVec.extractLsb', Nat.shiftRight_eq_div_pow]
  omega

/-- R75: a low half written. -/
theorem withLow_toNat (a : Addr) (v : Word16) : (withLow a v).toNat = a.toNat / 0x10000 * 0x10000 + v.toNat := by
  have := a.isLt
  have h : (withLow a v).toNat = a.toNat / 0x10000 % 16 * 0x10000 + v.toNat := by
    unfold withLow
    refine (BitVec.toNat_append _ _).trans ?_
    rw [← Nat.shiftLeft_add_eq_or_of_lt v.isLt, Nat.shiftLeft_eq]
    simp [BitVec.extractLsb', Nat.shiftRight_eq_div_pow]
  rw [h, Nat.mod_eq_of_lt (by omega)]

/-- R75: high bits written, v[15:4] discarded. -/
theorem withHigh_toNat (a : Addr) (v : Word16) : (withHigh a v).toNat = v.toNat % 16 * 0x10000 + a.toNat % 0x10000 := by
  unfold withHigh
  refine (BitVec.toNat_append _ _).trans ?_
  rw [← Nat.shiftLeft_add_eq_or_of_lt (BitVec.isLt _), Nat.shiftLeft_eq]
  simp [BitVec.extractLsb', Nat.shiftRight_eq_div_pow]

/-- A field of a register as a number. -/
theorem extractLsb'_eq_ofNat (v : Word16) (i l : Nat) : v.extractLsb' i l = BitVec.ofNat l (v.toNat / 2 ^ i % 2 ^ l) := by
  apply BitVec.eq_of_toNat_eq
  simp [BitVec.extractLsb', Nat.shiftRight_eq_div_pow]

/-- R72: the REPEATED_* modes are the codes with bit 2 set. -/
theorem transferMode_isRepeated (code : BitVec 3) : (transferMode code).isRepeated = code.getLsbD 2 := by
  revert code; decide

/-- R106: a cursor step in natural numbers. -/
theorem Step.advance_eq (st : Step) (a : Addr) : st.advance a = BitVec.ofNat 20 (movedCursor a st) := by
  apply BitVec.eq_of_toNat_eq
  have := a.isLt
  cases st
  · simp only [Step.advance, movedCursor, BitVec.toNat_sub, BitVec.toNat_ofNat]; omega
  · simp only [Step.advance, movedCursor, BitVec.toNat_ofNat]; omega
  · simp only [Step.advance, movedCursor, BitVec.toNat_add, BitVec.toNat_ofNat]; omega

/-- Clearing bit 3 of a word keeps every field that does not hold bit 3. -/
theorem extractLsb'_clearFlag (v : Word16) {i l : Nat} (h : ∀ j, j < l → i + j ≠ 3) (hl : i + l ≤ 16) :
    (v &&& 0xFFF7#16).extractLsb' i l = v.extractLsb' i l := by
  have hm : ∀ j : Fin 16, (0xFFF7#16).getLsbD j.val = decide (j.val ≠ 3) := by decide
  apply BitVec.eq_of_getLsbD_eq
  intro j hj
  simp only [BitVec.getLsbD_extractLsb', BitVec.getLsbD_and, hj, decide_true, Bool.true_and]
  rw [hm ⟨i + j, by omega⟩]
  simp [h j hj]

/-- Clearing bit 3 of a word keeps every other bit. -/
theorem getLsbD_clearFlag (v : Word16) {i : Nat} (h : i ≠ 3) (hl : i < 16) : (v &&& 0xFFF7#16).getLsbD i = v.getLsbD i := by
  have hm : ∀ j : Fin 16, (0xFFF7#16).getLsbD j.val = decide (j.val ≠ 3) := by decide
  rw [BitVec.getLsbD_and, hm ⟨i, hl⟩]
  simp [h]

/-- The line level after one trace and then another. -/
theorem lineLevel_append (b : Bool) (l m : List Output) : lineLevel b (l ++ m) = lineLevel (lineLevel b l) m := by
  induction l generalizing b with
  | nil => rfl
  | cons o l ih => cases o <;> simp [lineLevel, ih]

end Sys2Proof.Machine
end

