-- ==== Sys2Proof/Laws/PerInstr.lean ====
section
/-! SUPPORT. Family `Row`: the word of every well-formed operation lies in its row of spec/opcode_table.json. -/

namespace Sys2Proof.Laws.Row

/-- An operation's row of spec/opcode_table.json: its `match` and its `mask`, as the table writes them. -/
def tableRow : Instr → BitVec 10 × BitVec 10
  | .rdDmactl0 _ => (0x000#10, 0x3FF#10)
  | .wrDmactl0 _ _ => (0x080#10, 0x3FF#10)
  | .rdDmactl1 _ => (0x002#10, 0x3FF#10)
  | .wrDmactl1 _ _ => (0x082#10, 0x3FF#10)
  | .rdDmactl2 _ => (0x004#10, 0x3FF#10)
  | .wrDmactl2 _ _ => (0x084#10, 0x3FF#10)
  | .rdDmactl3 _ => (0x006#10, 0x3FF#10)
  | .wrDmactl3 _ _ => (0x086#10, 0x3FF#10)
  | .rdDmactl4 _ => (0x008#10, 0x3FF#10)
  | .wrDmactl4 _ _ => (0x088#10, 0x3FF#10)
  | .rdDmaiv _ => (0x00E#10, 0x3FF#10)
  | .wrDmaiv _ _ => (0x08E#10, 0x3FF#10)
  | .rdDma0ctl _ => (0x010#10, 0x3FF#10)
  | .wrDma0ctl _ _ => (0x090#10, 0x3FF#10)
  | .rdDma0sal _ => (0x012#10, 0x3FF#10)
  | .wrDma0sal _ _ => (0x092#10, 0x3FF#10)
  | .rdDma0sah _ => (0x014#10, 0x3FF#10)
  | .wrDma0sah _ _ => (0x094#10, 0x3FF#10)
  | .rdDma0dal _ => (0x016#10, 0x3FF#10)
  | .wrDma0dal _ _ => (0x096#10, 0x3FF#10)
  | .rdDma0dah _ => (0x018#10, 0x3FF#10)
  | .wrDma0dah _ _ => (0x098#10, 0x3FF#10)
  | .rdDma0sz _ => (0x01A#10, 0x3FF#10)
  | .wrDma0sz _ _ => (0x09A#10, 0x3FF#10)
  | .rdDma1ctl _ => (0x020#10, 0x3FF#10)
  | .wrDma1ctl _ _ => (0x0A0#10, 0x3FF#10)
  | .rdDma1sal _ => (0x022#10, 0x3FF#10)
  | .wrDma1sal _ _ => (0x0A2#10, 0x3FF#10)
  | .rdDma1sah _ => (0x024#10, 0x3FF#10)
  | .wrDma1sah _ _ => (0x0A4#10, 0x3FF#10)
  | .rdDma1dal _ => (0x026#10, 0x3FF#10)
  | .wrDma1dal _ _ => (0x0A6#10, 0x3FF#10)
  | .rdDma1dah _ => (0x028#10, 0x3FF#10)
  | .wrDma1dah _ _ => (0x0A8#10, 0x3FF#10)
  | .rdDma1sz _ => (0x02A#10, 0x3FF#10)
  | .wrDma1sz _ _ => (0x0AA#10, 0x3FF#10)
  | .rdDma2ctl _ => (0x030#10, 0x3FF#10)
  | .wrDma2ctl _ _ => (0x0B0#10, 0x3FF#10)
  | .rdDma2sal _ => (0x032#10, 0x3FF#10)
  | .wrDma2sal _ _ => (0x0B2#10, 0x3FF#10)
  | .rdDma2sah _ => (0x034#10, 0x3FF#10)
  | .wrDma2sah _ _ => (0x0B4#10, 0x3FF#10)
  | .rdDma2dal _ => (0x036#10, 0x3FF#10)
  | .wrDma2dal _ _ => (0x0B6#10, 0x3FF#10)
  | .rdDma2dah _ => (0x038#10, 0x3FF#10)
  | .wrDma2dah _ _ => (0x0B8#10, 0x3FF#10)
  | .rdDma2sz _ => (0x03A#10, 0x3FF#10)
  | .wrDma2sz _ _ => (0x0BA#10, 0x3FF#10)
  | .fire _ _ => (0x100#10, 0x3FF#10)
  | .bind _ _ _ => (0x180#10, 0x3E0#10)
  | .step => (0x200#10, 0x3FF#10)
  | .reset => (0x280#10, 0x3FF#10)

/-- The bits the row's mask names are the bits the row fixes. -/
def Statement (i : Instr) : Prop := i.wellFormed = true → (encode i).word &&& (tableRow i).2 = (tableRow i).1

theorem rdDmactl0 (w : Width) : Statement (.rdDmactl0 w) := fun _ =>
  (by decide : 0x000#10 &&& 0x3FF#10 = 0x000#10)
theorem wrDmactl0 (w : Width) (d : Word16) : Statement (.wrDmactl0 w d) := fun _ =>
  (by decide : 0x080#10 &&& 0x3FF#10 = 0x080#10)
theorem rdDmactl1 (w : Width) : Statement (.rdDmactl1 w) := fun _ =>
  (by decide : 0x002#10 &&& 0x3FF#10 = 0x002#10)
theorem wrDmactl1 (w : Width) (d : Word16) : Statement (.wrDmactl1 w d) := fun _ =>
  (by decide : 0x082#10 &&& 0x3FF#10 = 0x082#10)
theorem rdDmactl2 (w : Width) : Statement (.rdDmactl2 w) := fun _ =>
  (by decide : 0x004#10 &&& 0x3FF#10 = 0x004#10)
theorem wrDmactl2 (w : Width) (d : Word16) : Statement (.wrDmactl2 w d) := fun _ =>
  (by decide : 0x084#10 &&& 0x3FF#10 = 0x084#10)
theorem rdDmactl3 (w : Width) : Statement (.rdDmactl3 w) := fun _ =>
  (by decide : 0x006#10 &&& 0x3FF#10 = 0x006#10)
theorem wrDmactl3 (w : Width) (d : Word16) : Statement (.wrDmactl3 w d) := fun _ =>
  (by decide : 0x086#10 &&& 0x3FF#10 = 0x086#10)
theorem rdDmactl4 (w : Width) : Statement (.rdDmactl4 w) := fun _ =>
  (by decide : 0x008#10 &&& 0x3FF#10 = 0x008#10)
theorem wrDmactl4 (w : Width) (d : Word16) : Statement (.wrDmactl4 w d) := fun _ =>
  (by decide : 0x088#10 &&& 0x3FF#10 = 0x088#10)
theorem rdDmaiv (w : Width) : Statement (.rdDmaiv w) := fun _ =>
  (by decide : 0x00E#10 &&& 0x3FF#10 = 0x00E#10)
theorem wrDmaiv (w : Width) (d : Word16) : Statement (.wrDmaiv w d) := fun _ =>
  (by decide : 0x08E#10 &&& 0x3FF#10 = 0x08E#10)
theorem rdDma0ctl (w : Width) : Statement (.rdDma0ctl w) := fun _ =>
  (by decide : 0x010#10 &&& 0x3FF#10 = 0x010#10)
theorem wrDma0ctl (w : Width) (d : Word16) : Statement (.wrDma0ctl w d) := fun _ =>
  (by decide : 0x090#10 &&& 0x3FF#10 = 0x090#10)
theorem rdDma0sal (w : Width) : Statement (.rdDma0sal w) := fun _ =>
  (by decide : 0x012#10 &&& 0x3FF#10 = 0x012#10)
theorem wrDma0sal (w : Width) (d : Word16) : Statement (.wrDma0sal w d) := fun _ =>
  (by decide : 0x092#10 &&& 0x3FF#10 = 0x092#10)
theorem rdDma0sah (w : Width) : Statement (.rdDma0sah w) := fun _ =>
  (by decide : 0x014#10 &&& 0x3FF#10 = 0x014#10)
theorem wrDma0sah (w : Width) (d : Word16) : Statement (.wrDma0sah w d) := fun _ =>
  (by decide : 0x094#10 &&& 0x3FF#10 = 0x094#10)
theorem rdDma0dal (w : Width) : Statement (.rdDma0dal w) := fun _ =>
  (by decide : 0x016#10 &&& 0x3FF#10 = 0x016#10)
theorem wrDma0dal (w : Width) (d : Word16) : Statement (.wrDma0dal w d) := fun _ =>
  (by decide : 0x096#10 &&& 0x3FF#10 = 0x096#10)
theorem rdDma0dah (w : Width) : Statement (.rdDma0dah w) := fun _ =>
  (by decide : 0x018#10 &&& 0x3FF#10 = 0x018#10)
theorem wrDma0dah (w : Width) (d : Word16) : Statement (.wrDma0dah w d) := fun _ =>
  (by decide : 0x098#10 &&& 0x3FF#10 = 0x098#10)
theorem rdDma0sz (w : Width) : Statement (.rdDma0sz w) := fun _ =>
  (by decide : 0x01A#10 &&& 0x3FF#10 = 0x01A#10)
theorem wrDma0sz (w : Width) (d : Word16) : Statement (.wrDma0sz w d) := fun _ =>
  (by decide : 0x09A#10 &&& 0x3FF#10 = 0x09A#10)
theorem rdDma1ctl (w : Width) : Statement (.rdDma1ctl w) := fun _ =>
  (by decide : 0x020#10 &&& 0x3FF#10 = 0x020#10)
theorem wrDma1ctl (w : Width) (d : Word16) : Statement (.wrDma1ctl w d) := fun _ =>
  (by decide : 0x0A0#10 &&& 0x3FF#10 = 0x0A0#10)
theorem rdDma1sal (w : Width) : Statement (.rdDma1sal w) := fun _ =>
  (by decide : 0x022#10 &&& 0x3FF#10 = 0x022#10)
theorem wrDma1sal (w : Width) (d : Word16) : Statement (.wrDma1sal w d) := fun _ =>
  (by decide : 0x0A2#10 &&& 0x3FF#10 = 0x0A2#10)
theorem rdDma1sah (w : Width) : Statement (.rdDma1sah w) := fun _ =>
  (by decide : 0x024#10 &&& 0x3FF#10 = 0x024#10)
theorem wrDma1sah (w : Width) (d : Word16) : Statement (.wrDma1sah w d) := fun _ =>
  (by decide : 0x0A4#10 &&& 0x3FF#10 = 0x0A4#10)
theorem rdDma1dal (w : Width) : Statement (.rdDma1dal w) := fun _ =>
  (by decide : 0x026#10 &&& 0x3FF#10 = 0x026#10)
theorem wrDma1dal (w : Width) (d : Word16) : Statement (.wrDma1dal w d) := fun _ =>
  (by decide : 0x0A6#10 &&& 0x3FF#10 = 0x0A6#10)
theorem rdDma1dah (w : Width) : Statement (.rdDma1dah w) := fun _ =>
  (by decide : 0x028#10 &&& 0x3FF#10 = 0x028#10)
theorem wrDma1dah (w : Width) (d : Word16) : Statement (.wrDma1dah w d) := fun _ =>
  (by decide : 0x0A8#10 &&& 0x3FF#10 = 0x0A8#10)
theorem rdDma1sz (w : Width) : Statement (.rdDma1sz w) := fun _ =>
  (by decide : 0x02A#10 &&& 0x3FF#10 = 0x02A#10)
theorem wrDma1sz (w : Width) (d : Word16) : Statement (.wrDma1sz w d) := fun _ =>
  (by decide : 0x0AA#10 &&& 0x3FF#10 = 0x0AA#10)
theorem rdDma2ctl (w : Width) : Statement (.rdDma2ctl w) := fun _ =>
  (by decide : 0x030#10 &&& 0x3FF#10 = 0x030#10)
theorem wrDma2ctl (w : Width) (d : Word16) : Statement (.wrDma2ctl w d) := fun _ =>
  (by decide : 0x0B0#10 &&& 0x3FF#10 = 0x0B0#10)
theorem rdDma2sal (w : Width) : Statement (.rdDma2sal w) := fun _ =>
  (by decide : 0x032#10 &&& 0x3FF#10 = 0x032#10)
theorem wrDma2sal (w : Width) (d : Word16) : Statement (.wrDma2sal w d) := fun _ =>
  (by decide : 0x0B2#10 &&& 0x3FF#10 = 0x0B2#10)
theorem rdDma2sah (w : Width) : Statement (.rdDma2sah w) := fun _ =>
  (by decide : 0x034#10 &&& 0x3FF#10 = 0x034#10)
theorem wrDma2sah (w : Width) (d : Word16) : Statement (.wrDma2sah w d) := fun _ =>
  (by decide : 0x0B4#10 &&& 0x3FF#10 = 0x0B4#10)
theorem rdDma2dal (w : Width) : Statement (.rdDma2dal w) := fun _ =>
  (by decide : 0x036#10 &&& 0x3FF#10 = 0x036#10)
theorem wrDma2dal (w : Width) (d : Word16) : Statement (.wrDma2dal w d) := fun _ =>
  (by decide : 0x0B6#10 &&& 0x3FF#10 = 0x0B6#10)
theorem rdDma2dah (w : Width) : Statement (.rdDma2dah w) := fun _ =>
  (by decide : 0x038#10 &&& 0x3FF#10 = 0x038#10)
theorem wrDma2dah (w : Width) (d : Word16) : Statement (.wrDma2dah w d) := fun _ =>
  (by decide : 0x0B8#10 &&& 0x3FF#10 = 0x0B8#10)
theorem rdDma2sz (w : Width) : Statement (.rdDma2sz w) := fun _ =>
  (by decide : 0x03A#10 &&& 0x3FF#10 = 0x03A#10)
theorem wrDma2sz (w : Width) (d : Word16) : Statement (.wrDma2sz w d) := fun _ =>
  (by decide : 0x0BA#10 &&& 0x3FF#10 = 0x0BA#10)
theorem fire (p : Provider) (k : Byte) : Statement (.fire p k) := fun _ =>
  (by decide : 0x100#10 &&& 0x3FF#10 = 0x100#10)
theorem bind (t : BitVec 7) (p : Provider) (k : Byte) : Statement (.bind t p k) := by
  have h : ∀ t : BitVec 7, t.toNat ≤ 31 → (0b011#3 ++ t) &&& 0x3E0#10 = 0x180#10 := by decide
  exact fun w => h t (of_decide_eq_true w)
theorem step : Statement .step := fun _ =>
  (by decide : 0x200#10 &&& 0x3FF#10 = 0x200#10)
theorem reset : Statement .reset := fun _ =>
  (by decide : 0x280#10 &&& 0x3FF#10 = 0x280#10)

end Sys2Proof.Laws.Row
end

