-- ==== Sys2Proof/Laws/Step.lean ====
section
/-! SUPPORT. What a step can do, said once: it serves the next arrival from a state without a fault mark, and a served
request runs an operation, raises a fault mark or is refused. -/

namespace Sys2Proof.Machine

/-- R65: an address below P_BASE is outside the decoded range. -/
theorem formOp_below {base addr : Addr} (h : addr.toNat < base.toNat) (wr : Bool) (w : Width) (d : Word16) :
    formOp base (.access wr addr w d) = .outside addr := by
  have h' : addr < base := BitVec.lt_def.2 h
  simp only [formOp, if_pos h']

/-- R65: an offset of 0x80 or more is outside the decoded range. -/
theorem formOp_above {base addr : Addr} (h : base.toNat + 0x80 ≤ addr.toNat) (wr : Bool) (w : Width) (d : Word16) :
    formOp base (.access wr addr w d) = .outside addr := by
  have h1 : ¬ addr < base := by rw [BitVec.lt_def]; omega
  have h2 : 0x80#20 ≤ addr - base := by
    rw [BitVec.le_def, BitVec.toNat_sub_of_le (by rw [BitVec.le_def]; omega)]
    simp only [BitVec.toNat_ofNat]; omega
  simp only [formOp, if_neg h1, if_pos h2]

/-- R42: an access at `P_BASE + off` becomes the word of the access at `off`. -/
theorem formOp_at {base addr : Addr} {off : BitVec 7} (h : addr.toNat = base.toNat + off.toNat) (wr : Bool) (w : Width)
    (d : Word16) : formOp base (.access wr addr w d) = .op ⟨accessWord wr off, w, d, ⟨0⟩, 0#8⟩ := by
  have hoff := off.isLt
  have h1 : ¬ addr < base := by rw [BitVec.lt_def]; omega
  have h2 : (addr - base).toNat = off.toNat := by
    rw [BitVec.toNat_sub_of_le (by rw [BitVec.le_def]; omega)]; omega
  have h3 : ¬ 0x80#20 ≤ addr - base := by rw [BitVec.le_def, h2]; simp only [BitVec.toNat_ofNat]; omega
  have h4 : (addr - base).setWidth 7 = off := by
    apply BitVec.eq_of_toNat_eq; rw [BitVec.toNat_setWidth, h2]; omega
  simp only [formOp, if_neg h1, if_neg h3, h4, bareOp]

/-- With no fault mark and something presented, the step serves the next arrival. -/
theorem step_serve {s : State} {a : Arrival} {rest : List Arrival} (hf : s.fault = none) (hi : s.input = a :: rest) :
    step s = (s.arrive a rest).serve a.request := by
  unfold step; rw [hf, hi]

/-- R144 for a step. -/
theorem step_faulted {s : State} {m : FaultMark} (h : s.fault = some m) : step s = .fault (.faulted m) := by
  unfold step; rw [h]

/-- R166: with nothing presented the block does nothing. -/
theorem step_idle {s : State} (hf : s.fault = none) (hi : s.input = []) : step s = .fault .noOperation := by
  unfold step; rw [hf, hi]

/-- Everything a step that answers a next state did: it took the next arrival, and then an operation of the table ran on
the state the arrival left, or a fault mark was raised there. -/
theorem step_cases {s t : State} (h : step s = .next t) :
    s.fault = none ∧ ∃ a rest, s.input = a :: rest ∧
      ((∃ i, exec i (s.arrive a rest) = .next t) ∨ ∃ m, t = (s.arrive a rest).raise m) := by
  cases hf : s.fault with
  | some m => rw [step_faulted hf] at h; cases h
  | none =>
    cases hi : s.input with
    | nil => rw [step_idle hf hi] at h; cases h
    | cons a rest =>
      refine ⟨rfl, a, rest, rfl, ?_⟩
      rw [step_serve hf hi] at h
      unfold State.serve at h
      cases ho : formOp (s.arrive a rest).platform.base a.request with
      | outside addr => rw [ho] at h; exact .inr ⟨_, by cases h; rfl⟩
      | op o =>
        rw [ho] at h
        cases hd : decode o with
        | instr i => simp only [hd, State.perform] at h; exact .inl ⟨i, h⟩
        | configAddr x => simp only [hd, State.perform] at h; exact .inr ⟨_, by cases h; rfl⟩
        | bindRange x => simp only [hd, State.perform] at h; exact .inr ⟨_, by cases h; rfl⟩
        | reserved w => simp only [hd, State.perform] at h; cases h

end Sys2Proof.Machine
end

