-- ==== Sys2Proof/Tests/Slice0.lean ====
section
/-! SUPPORT. Tests: the well-formedness smoke, decoding of words written out from spec/30_encoding.md, one-step vectors of
spec/95_test_vectors.md (their ids stand in the comments), and a witness for every statement that has hypotheses. -/

namespace Sys2Proof.Tests

open Sys2Proof Sys2Proof.Machine

/-! ### Helpers -/

/-- spec/95: P_BASE = 0x00500; the power-up state with that base. -/
def start : State := { State.reset with platform := { base := 0x00500#20, vector := 7, source := 1 } }

/-- The two distinct provider references of spec/95. -/
def provP : Provider := ⟨10⟩
def provQ : Provider := ⟨11⟩

def nextOf : Host.Outcome State Fault Refusal → Option State
  | .next s => some s
  | .fault _ | .refused _ => none

def faultOf : Host.Outcome State Fault Refusal → Option Fault
  | .fault f => some f
  | .next _ | .refused _ => none

def refusalOf : Host.Outcome State Fault Refusal → Option Refusal
  | .refused r => some r
  | .next _ | .fault _ => none

/-- One field, or several, of the state an operation leaves. -/
def see {α : Type} (i : Instr) (s : State) (f : State → α) : Option α := (nextOf (exec i s)).map f

/-- The operation an operation word (ten bits) decodes to. -/
def reads (w : Nat) : Option Instr := decodeTableWord 16 w

/-- A state with one operation presented. -/
def presenting (s : State) (r : Request) : State :=
  { s with input := [⟨r, ⟨false, false, false⟩, []⟩] }

/-- A channel ready for a step: enabled, cursors 0x01000 and 0x02000, both steps +1. -/
def ready (size : Word16) : Channel :=
  { Channel.reset with
    en := true, srcStep := .plusOne, dstStep := .plusOne, cs := 0x01000#20, cd := 0x02000#20, size := size, total := 4#16 }

/-- A channel with flag and interrupt enable, control word 0x000C. -/
def waiting : Channel := { Channel.reset with cw := 0x000C#16, ifg := true, ie := true }

/-! ### WellFormed smoke: the one check there is -/

theorem test_bind32_illFormed : (Instr.bind 32#7 provP 0#8).wellFormed = false := by decide
theorem test_bind127_illFormed : (Instr.bind 127#7 provP 0#8).wellFormed = false := by decide
theorem test_bind31_wellFormed : (Instr.bind 31#7 provP 0#8).wellFormed = true := by decide

/-! ### Decoding: every constructor, its word written out bit by bit (R63, R66 to R70), KIND then X -/

theorem test_decode_globalReads :
    [0b000_0000000, 0b000_0000010, 0b000_0000100, 0b000_0000110, 0b000_0001000, 0b000_0001110].map reads =
      [some (.rdDmactl0 .word), some (.rdDmactl1 .word), some (.rdDmactl2 .word), some (.rdDmactl3 .word),
        some (.rdDmactl4 .word), some (.rdDmaiv .word)] := by decide

theorem test_decode_globalWrites :
    [0b001_0000000, 0b001_0000010, 0b001_0000100, 0b001_0000110, 0b001_0001000, 0b001_0001110].map reads =
      [some (.wrDmactl0 .word 0#16), some (.wrDmactl1 .word 0#16), some (.wrDmactl2 .word 0#16),
        some (.wrDmactl3 .word 0#16), some (.wrDmactl4 .word 0#16), some (.wrDmaiv .word 0#16)] := by decide

theorem test_decode_channel0 :
    [0b000_0010000, 0b000_0010010, 0b000_0010100, 0b000_0010110, 0b000_0011000, 0b000_0011010,
      0b001_0010000, 0b001_0010010, 0b001_0010100, 0b001_0010110, 0b001_0011000, 0b001_0011010].map reads =
      [some (.rdDma0ctl .word), some (.rdDma0sal .word), some (.rdDma0sah .word), some (.rdDma0dal .word),
        some (.rdDma0dah .word), some (.rdDma0sz .word), some (.wrDma0ctl .word 0#16), some (.wrDma0sal .word 0#16),
        some (.wrDma0sah .word 0#16), some (.wrDma0dal .word 0#16), some (.wrDma0dah .word 0#16),
        some (.wrDma0sz .word 0#16)] := by decide

theorem test_decode_channel1 :
    [0b000_0100000, 0b000_0100010, 0b000_0100100, 0b000_0100110, 0b000_0101000, 0b000_0101010,
      0b001_0100000, 0b001_0100010, 0b001_0100100, 0b001_0100110, 0b001_0101000, 0b001_0101010].map reads =
      [some (.rdDma1ctl .word), some (.rdDma1sal .word), some (.rdDma1sah .word), some (.rdDma1dal .word),
        some (.rdDma1dah .word), some (.rdDma1sz .word), some (.wrDma1ctl .word 0#16), some (.wrDma1sal .word 0#16),
        some (.wrDma1sah .word 0#16), some (.wrDma1dal .word 0#16), some (.wrDma1dah .word 0#16),
        some (.wrDma1sz .word 0#16)] := by decide

theorem test_decode_channel2 :
    [0b000_0110000, 0b000_0110010, 0b000_0110100, 0b000_0110110, 0b000_0111000, 0b000_0111010,
      0b001_0110000, 0b001_0110010, 0b001_0110100, 0b001_0110110, 0b001_0111000, 0b001_0111010].map reads =
      [some (.rdDma2ctl .word), some (.rdDma2sal .word), some (.rdDma2sah .word), some (.rdDma2dal .word),
        some (.rdDma2dah .word), some (.rdDma2sz .word), some (.wrDma2ctl .word 0#16), some (.wrDma2sal .word 0#16),
        some (.wrDma2sah .word 0#16), some (.wrDma2dal .word 0#16), some (.wrDma2dah .word 0#16),
        some (.wrDma2sz .word 0#16)] := by decide

theorem test_decode_others :
    [0b010_0000000, 0b011_0000000, 0b011_0011111, 0b100_0000000, 0b101_0000000].map reads =
      [some (.fire ⟨0⟩ 0#8), some (.bind 0#7 ⟨0⟩ 0#8), some (.bind 31#7 ⟨0⟩ 0#8), some .step, some .reset] := by decide

/-- The operands beside the word reach the operation (R65). -/
theorem test_decode_operands :
    decode ⟨0b011_0000101#10, .byte, 0xABCD#16, provP, 0x42#8⟩ = .instr (.bind 5#7 provP 0x42#8) ∧
    decode ⟨0b001_0101010#10, .byte, 0xABCD#16, provP, 0x42#8⟩ = .instr (.wrDma1sz .byte 0xABCD#16) := by decide

/-- L2.5: words that name no operation. -/
theorem test_decode_refused :
    [0x101, 0x281, 0x300, 0x37F, 0x380, 0x3FF, 0x1A0, 0x00C, 0x0CE, 0x400].map reads =
      [none, none, none, none, none, none, none, none, none, none] := by decide

/-- `withFetchWord` presents the word, and the step serves it: WR DMA2CTL with data 0. -/
theorem test_fetchWord_runs : (nextOf (step (start.withFetchWord 16 0x0B0))).map (fun t => (t.ch2, t.input)) =
    some (Channel.reset, []) := by decide

/-! ### Channel registers (L2.1) -/

/-- V-CTL-1 -/
theorem test_wrDma0ctl_arms : see (.wrDma0ctl .word 0x0F10#16) start (fun t =>
    ((t.ch0.cw, t.ch0.dstStep, t.ch0.srcStep), (t.ch0.en, t.ch0.ifg, t.ch0.ie), t.pending, t.out)) =
    some ((0x0F10#16, .plusOne, .plusOne), (true, false, false), [], []) := by decide

/-- V-CTL-2 -/
theorem test_wrDma0ctl_releases :
    see (.wrDma0ctl .word 0x0004#16) { start with pv := 2#16, irq := true, ch0 := waiting, ch1 := waiting } (fun t =>
      (t.ch0.ifg, t.ch0.cw, t.pv, t.irq, t.out)) =
    some (false, 0x0004#16, 4#16, true, [.setLine 7 1 false, .setLine 7 1 true]) := by decide

/-- V-CTL-3 -/
theorem test_wrDma1ctl_nonOwner :
    see (.wrDma1ctl .word 0x0004#16) { start with pv := 2#16, irq := true, ch1 := waiting } (fun t =>
      (t.ch1.ifg, t.pv, t.out)) = some (false, 2#16, []) := by decide

/-- V-CTL-10 -/
theorem test_wrDma1ctl_stepCode01 : see (.wrDma1ctl .word 0x0510#16) start (fun t =>
    (t.ch1.mode, t.ch1.dstStep, t.ch1.srcStep, t.ch1.en)) = some (0#3, .zero, .zero, true) := by decide

/-- V-CTL-4 -/
theorem test_wrDma2ctl_acquires : see (.wrDma2ctl .word 0x000C#16) start (fun t =>
    ((t.ch2.ifg, t.ch2.ie, t.ch2.en), t.pv, t.irq, t.out)) =
    some ((true, true, false), 6#16, true, [.setLine 7 1 true]) := by decide

/-- L2.5: 0x4E14 is REPEATED_SINGLE, destination +1, source -1. -/
theorem test_wrDma2ctl_fields : see (.wrDma2ctl .word 0x4E14#16) start (fun t =>
    (transferMode t.ch2.mode, t.ch2.dstStep, t.ch2.srcStep, t.ch2.en, t.ch2.ie, t.ch2.ifg)) =
    some (.repeatedSingle, .plusOne, .minusOne, true, true, false) := by decide

/-- V-CTL-8: arming catch-up and software request on one write. -/
theorem test_wrDma0ctl_schedulesTwice :
    see (.wrDma0ctl .word 0x0011#16)
      { start with ch0 := { Channel.reset with bound := some ⟨provP, 0#8⟩ }, draws := ⟨true, false, false⟩ } (fun t =>
      (t.pending, t.out)) =
    some ([.c0, .c0], [.query provP 0#8, .schedule 0#32 .c0, .schedule 0#32 .c0]) := by decide

/-- V-CTL-7: bit 0 with trigger select 3 schedules nothing. -/
theorem test_wrDma0ctl_requestNeedsSelect0 : see (.wrDma0ctl .word 0x0011#16) { start with ctl0 := 0x0003#16 } (fun t =>
    (t.ch0.en, t.pending, t.out)) = some (true, [], []) := by decide

/-- R88's example -/
theorem test_rdDma0ctl_liveFlag :
    see (.rdDma0ctl .word) { start with ch0 := { Channel.reset with cw := 0x0F10#16, ifg := true } } (fun t => t.out) =
    some [.readData 0x0F18#16] := by decide

theorem test_rdDma1ctl_flagCleared :
    see (.rdDma1ctl .word) { start with ch1 := { Channel.reset with cw := 0x000C#16 } } (fun t => t.out) =
    some [.readData 0x0004#16] := by decide

/-- L2.5: read assembly of 0x4E14 with the flag set -/
theorem test_rdDma2ctl_liveFlag :
    see (.rdDma2ctl .word) { start with ch2 := { Channel.reset with cw := 0x4E14#16, ifg := true } } (fun t => t.out) =
    some [.readData 0x4E1C#16] := by decide

/-- V-ADR-1 -/
theorem test_wrDma0sal :
    see (.wrDma0sal .word 0x2000#16) { start with ch0 := { Channel.reset with sa := 0x31000#20, cs := 0x31002#20 } }
      (fun t => (t.ch0.sa, t.ch0.cs, t.ch0.cd)) = some (0x32000#20, 0x32000#20, 0x00000#20) := by decide

/-- V-ADR-2 -/
theorem test_wrDma0sah :
    see (.wrDma0sah .word 0x00F5#16) { start with ch0 := { Channel.reset with sa := 0x01000#20 } }
      (fun t => (t.ch0.sa, t.ch0.cs)) = some (0x51000#20, 0x51000#20) := by decide

/-- V-ADR-3 -/
theorem test_wrDma1dal : see (.wrDma1dal .word 0xFFFE#16) start (fun t => (t.ch1.da, t.ch1.cd, t.ch1.cs)) =
    some (0x0FFFE#20, 0x0FFFE#20, 0x00000#20) := by decide

theorem test_wrDma1dah :
    see (.wrDma1dah .word 0x000F#16) { start with ch1 := { Channel.reset with da := 0x0FFFE#20 } }
      (fun t => (t.ch1.da, t.ch1.cd)) = some (0xFFFFE#20, 0xFFFFE#20) := by decide

theorem test_wrDma0dal_dah : see (.wrDma0dal .word 0x0410#16) start (fun t => (t.ch0.da, t.ch0.cd)) =
    some (0x00410#20, 0x00410#20) ∧
    see (.wrDma0dah .word 0x0001#16) start (fun t => (t.ch0.da, t.ch0.cd)) = some (0x10000#20, 0x10000#20) := by decide

theorem test_wrDma1sal_sah : see (.wrDma1sal .word 0x0200#16) start (fun t => (t.ch1.sa, t.ch1.cs)) =
    some (0x00200#20, 0x00200#20) ∧
    see (.wrDma1sah .word 0x0002#16) start (fun t => (t.ch1.sa, t.ch1.cs)) = some (0x20000#20, 0x20000#20) := by decide

/-- P3 rows 3 to 6 -/
theorem test_wrDma2_addresses : see (.wrDma2sal .word 0x0001#16) start (fun t => t.ch2.cs) = some 0x00001#20 ∧
    see (.wrDma2sah .word 0x000F#16) start (fun t => t.ch2.cs) = some 0xF0000#20 ∧
    see (.wrDma2dal .word 0xFFFE#16) start (fun t => t.ch2.cd) = some 0x0FFFE#20 ∧
    see (.wrDma2dah .word 0x000F#16) start (fun t => t.ch2.cd) = some 0xF0000#20 := by decide

/-- V-ADR-4, V-ADR-2: the base, not the cursor -/
theorem test_rdDma0_addresses :
    let s := { start with ch0 := { Channel.reset with sa := 0x51000#20, cs := 0x51003#20, da := 0x2000F#20 } }
    see (.rdDma0sal .word) s (fun t => t.out) = some [.readData 0x1000#16] ∧
    see (.rdDma0sah .word) s (fun t => t.out) = some [.readData 0x0005#16] ∧
    see (.rdDma0dal .word) s (fun t => t.out) = some [.readData 0x000F#16] ∧
    see (.rdDma0dah .word) s (fun t => t.out) = some [.readData 0x0002#16] := by decide

/-- V-ADR-3 -/
theorem test_rdDma1_addresses :
    let s := { start with ch1 := { Channel.reset with sa := 0x30001#20, da := 0xFFFFE#20 } }
    see (.rdDma1sal .word) s (fun t => t.out) = some [.readData 0x0001#16] ∧
    see (.rdDma1sah .word) s (fun t => t.out) = some [.readData 0x0003#16] ∧
    see (.rdDma1dal .word) s (fun t => t.out) = some [.readData 0xFFFE#16] ∧
    see (.rdDma1dah .word) s (fun t => t.out) = some [.readData 0x000F#16] := by decide

/-- P3 row 17 -/
theorem test_rdDma2_addresses :
    let s := { start with ch2 := { Channel.reset with sa := 0x00100#20, cs := 0x000FF#20, da := 0xFFFFE#20 } }
    see (.rdDma2sal .word) s (fun t => t.out) = some [.readData 0x0100#16] ∧
    see (.rdDma2sah .word) s (fun t => t.out) = some [.readData 0x0000#16] ∧
    see (.rdDma2dal .word) s (fun t => t.out) = some [.readData 0xFFFE#16] ∧
    see (.rdDma2dah .word) s (fun t => t.out) = some [.readData 0x000F#16] := by decide

/-- V-SZ-2, V-SZ-1 -/
theorem test_wrSizes :
    see (.wrDma0sz .word 0xFFFF#16) { start with ch0 := { Channel.reset with size := 3#16, total := 4#16, cs := 0x01001#20 } }
      (fun t => (t.ch0.size, t.ch0.total, t.ch0.cs)) = some (0xFFFF#16, 0xFFFF#16, 0x01001#20) ∧
    see (.wrDma1sz .word 2#16) start (fun t => (t.ch1.size, t.ch1.total)) = some (2#16, 2#16) ∧
    see (.wrDma2sz .word 3#16) start (fun t => (t.ch2.size, t.ch2.total)) = some (3#16, 3#16) := by decide

/-- V-SZ-3: the live count, not the reload value -/
theorem test_rdSizes :
    see (.rdDma0sz .word) { start with ch0 := ready 3#16 } (fun t => t.out) = some [.readData 3#16] ∧
    see (.rdDma1sz .word) { start with ch1 := ready 2#16 } (fun t => t.out) = some [.readData 2#16] ∧
    see (.rdDma2sz .word) { start with ch2 := ready 1#16 } (fun t => t.out) = some [.readData 1#16] := by decide

/-! ### Transfer (L2.2) -/

/-- V-STEP-1 -/
theorem test_step_moves :
    see .step { start with ch0 := ready 4#16, pending := [.c0], mem := [(0x01000, 0x11#8)] } (fun t =>
      (t.mem, t.ch0.cs, t.ch0.cd, t.ch0.size, t.pending)) =
    some ([(0x01000, 0x11#8), (0x02000, 0x11#8)], 0x01001#20, 0x02001#20, 3#16, []) := by decide

/-- V-STEP-3: both cursors wrap -/
theorem test_step_wraps :
    see .step { start with
      ch0 := { ready 5#16 with cs := 0xFFFFF#20, cd := 0x00000#20, dstStep := .minusOne }
      pending := [.c0]
      mem := [(0xFFFFF, 0x7E#8)] } (fun t => (t.mem, t.ch0.cs, t.ch0.cd, t.ch0.size)) =
    some ([(0x00000, 0x7E#8), (0xFFFFF, 0x7E#8)], 0x00000#20, 0xFFFFF#20, 4#16) := by decide

/-- V-STEP-8: end of a repeated block -/
theorem test_step_reloads :
    see .step { start with
      ch2 := { ready 1#16 with
        mode := 4#3, total := 2#16, sa := 0x00100#20, cs := 0x00101#20, da := 0x00200#20, cd := 0x00201#20 }
      pending := [.c2] } (fun t => (t.ch2.size, t.ch2.cs, t.ch2.cd, t.ch2.en, t.ch2.ifg, t.pv)) =
    some (2#16, 0x00100#20, 0x00200#20, true, true, 0#16) := by decide

/-- V-STEP-11: end of a block with an override of the vector -/
theorem test_step_overrides :
    see .step { start with
      ch1 := { ready 1#16 with mode := 1#3, ie := true }, pv := 6#16, irq := true, pending := [.c1] } (fun t =>
      (t.ch1.en, t.ch1.ifg, t.pv, t.irq, t.out.length)) = some (false, true, 4#16, true, 2) := by decide

/-- V-STEP-4 -/
theorem test_step_disabled :
    see .step { start with ch2 := { ready 2#16 with en := false }, pending := [.c2, .c0] } (fun t => (t.pending, t.out)) =
    some ([.c0], []) := by decide

/-- V-STEP-5, V-STEP-6, V-STEP-7 -/
theorem test_step_faults :
    see .step { start with ch0 := ready 0#16, pending := [.c0] } (fun t => t.fault) = some (some (.zeroSize .c0)) ∧
    see .step { start with ch0 := { ready 1#16 with cs := 0x00510#20 }, pending := [.c0] } (fun t => (t.fault, t.out)) =
      some (some (.selfAccess .c0 0x00510#20 0x02000#20), []) ∧
    see .step { start with ch0 := { ready 1#16 with cs := 0x40000#20 }, pending := [.c0], draws := ⟨false, true, false⟩ }
      (fun t => t.fault) = some (some (.busError 0x40000#20)) := by decide

/-- V-STEP-9 -/
theorem test_step_notEnabled : faultOf (exec .step start) = some .stepNotEnabled := by decide

/-! ### Arbiter (L2.3) -/

/-- A-1 to A-4 -/
theorem test_acquire : ((start.acquire .c1).pv, (start.acquire .c1).irq) = (4#16, true) ∧
    (({ start with pv := 6#16, irq := true } : State).acquire .c0).pv = 2#16 ∧
    (({ start with pv := 2#16, irq := true } : State).acquire .c2).pv = 2#16 ∧
    (({ start with pv := 4#16, irq := true } : State).acquire .c1).pv = 4#16 := by decide

/-- A-6 -/
theorem test_rdDmaiv_handsOn :
    see (.rdDmaiv .word) { start with pv := 2#16, irq := true, ch0 := waiting, ch1 := waiting, ch2 := waiting } (fun t =>
      (t.ch0.ifg, t.ch0.cw, t.pv, t.ch2.ifg, t.out)) =
    some (false, 0x0004#16, 4#16, true, [.readData 2#16, .setLine 7 1 false, .setLine 7 1 true]) := by decide

/-- A-8 -/
theorem test_rdDmaiv_idle : see (.rdDmaiv .word) start (fun t => (t.pv, t.out)) =
    some (0#16, [.readData 0#16, .setLine 7 1 false]) := by decide

/-- C-13 -/
theorem test_wrDmaiv : see (.wrDmaiv .word 0x1234#16) { start with pv := 6#16, irq := true, ch2 := waiting } (fun t =>
    (t.ch2.ifg, t.pv, t.irq, t.out)) = some (false, 0#16, false, [.setLine 7 1 false]) := by decide

/-- A-7: the stale owner the spec does not repair -/
theorem test_wrDma0ctl_stale :
    see (.wrDma0ctl .word 0x0008#16) { start with pv := 2#16, irq := true, ch0 := waiting, ch1 := waiting } (fun t =>
      (t.ch0.ie, t.ch0.ifg, t.pv)) = some (false, true, 2#16) := by decide

/-! ### Controller (L2.4) -/

/-- C-1, C-4, C-6 by word, and the port's own check of an address below P_BASE (R65) -/
theorem test_configAddr :
    (nextOf (step (presenting start (.op (bareOp 0x00A#10))))).map (fun t => t.fault) =
      some (some (.configAddr 0x0050A#20)) ∧
    (nextOf (step (presenting start (.op (wrOp 0x0C0#10 .word 0#16))))).map (fun t => t.fault) =
      some (some (.configAddr 0x00540#20)) ∧
    (nextOf (step (presenting start (.op (rdOp 0x00A#10 .byte))))).map (fun t => t.fault) =
      some (some (.configAddr 0x0050A#20)) ∧
    (nextOf (step (presenting start (.access false 0x004FE#20 .word 0#16)))).map (fun t => t.fault) =
      some (some (.configAddr 0x004FE#20)) := by decide

/-- C-5 -/
theorem test_accessWidth : see (.rdDma0ctl .byte) start (fun t => t.fault) =
    some (some (.accessWidth 0x00510#20 .byte)) := by decide

/-- C-7 -/
theorem test_wrDmactl0 :
    see (.wrDmactl0 .word 0xE0E5#16) (start.setTable 5#5 (some ⟨provP, 2#8⟩)) (fun t =>
      (t.ctl0, t.tsel .c0, t.tsel .c1, t.ch0.bound, t.ch1.bound)) =
    some (0xE0E5#16, 5#5, 0#5, some ⟨provP, 2#8⟩, none) := by decide

/-- C-8 -/
theorem test_wrDmactl1 :
    see (.wrDmactl1 .word 0x0007#16) (start.setTable 7#5 (some ⟨provQ, 0#8⟩)) (fun t =>
      (t.ctl1, t.ch2.bound, t.ch0.bound)) = some (0x0007#16, some ⟨provQ, 0#8⟩, none) := by decide

/-- C-14, C-15 -/
theorem test_wrReservedControls :
    see (.wrDmactl2 .word 0xFFFF#16) start (fun t => (t.ctl2, t.ctl3)) = some (0xFFFF#16, 0#16) ∧
    see (.wrDmactl3 .word 0x0001#16) start (fun t => (t.ctl3, t.ctl4)) = some (0x0001#16, 0#16) ∧
    see (.wrDmactl4 .word 0x0002#16) start (fun t => (t.ctl4, t.ctl2)) = some (0x0002#16, 0#16) := by decide

theorem test_rdControls :
    let s := { start with ctl0 := 0xE0E5#16, ctl1 := 0x0007#16, ctl2 := 0x1234#16, ctl3 := 0x0001#16, ctl4 := 0x0002#16 }
    see (.rdDmactl0 .word) s (fun t => t.out) = some [.readData 0xE0E5#16] ∧
    see (.rdDmactl1 .word) s (fun t => t.out) = some [.readData 0x0007#16] ∧
    see (.rdDmactl2 .word) s (fun t => t.out) = some [.readData 0x1234#16] ∧
    see (.rdDmactl3 .word) s (fun t => t.out) = some [.readData 0x0001#16] ∧
    see (.rdDmactl4 .word) s (fun t => t.out) = some [.readData 0x0002#16] := by decide

/-- Two channels bound to (P, 2), as C-9 and C-12 start. -/
def boundTwice : State := { start with
  ch0 := { Channel.reset with bound := some ⟨provP, 2#8⟩ }, ch2 := { Channel.reset with bound := some ⟨provP, 2#8⟩ } }

/-- C-9 -/
theorem test_fire_order : see (.fire provP 2#8) { boundTwice with pending := [.c1] } (fun t => (t.pending, t.out)) =
    some ([.c1, .c0, .c2], [.schedule 0#32 .c0, .schedule 0#32 .c2]) := by decide

/-- C-10 -/
theorem test_fire_unbound : see (.fire provP 9#8) start (fun t => (t.pending, t.out)) = some ([], []) := by decide

/-- C-12 -/
theorem test_bind_overwrites :
    see (.bind 5#7 provQ 1#8) (boundTwice.setTable 5#5 (some ⟨provP, 2#8⟩)) (fun t =>
      (t.tableAt 5#5, t.tableAt 4#5, t.ch0.bound, t.out)) =
    some (some ⟨provQ, 1#8⟩, none, some ⟨provP, 2#8⟩, [.registerDMA provQ]) := by decide

/-- C-11 -/
theorem test_bind_range : see (.bind 32#7 provP 0#8) start (fun t => (t.fault, t.tableAt 0#5)) =
    some (some (.bindRange 32#7), none) := by decide

/-! ### Reset and faults (L2.6) -/

/-- R-1 -/
theorem test_reset :
    see .reset ({ boundTwice with pv := 4#16, irq := true, ch1 := ready 2#16, pending := [.c1] }.setTable 5#5
      (some ⟨provP, 2#8⟩)) (fun t => ((t.pv, t.irq, t.pending), (t.ch0, t.ch1), t.tableAt 5#5, t.out)) =
    some ((0#16, false, []), (Channel.reset, Channel.reset), some ⟨provP, 2#8⟩, [.setLine 7 1 false]) := by decide

/-- R-3 -/
theorem test_reset_quiet : see .reset start (fun t => t) = some start := by decide

/-- R-4: the codes of R145 and a state that accepts nothing -/
theorem test_faulted_stops :
    faultOf (exec .reset { start with fault := some (.configAddr 0x0050A#20) }) =
      some (.faulted (.configAddr 0x0050A#20)) ∧
    (FaultMark.configAddr 0x0050A#20).code = 1 ∧ (FaultMark.accessWidth 0x00510#20 .byte).code = 2 ∧
    (FaultMark.busError 0x40000#20).code = 3 ∧ (FaultMark.zeroSize .c0).code = 4 ∧
    (FaultMark.selfAccess .c0 0x00510#20 0x02000#20).code = 5 ∧ (FaultMark.bindRange 32#7).code = 6 := by decide

/-- R147: a reserved word is refused. -/
theorem test_reserved_refused : refusalOf (step (presenting start (.op (bareOp 0x101#10)))) =
    some (.reservedOp 0x101#10) := by decide

/-! ### Witnesses: a concrete state and operands that meet all hypotheses of a statement together, one for each clause -/

/-- Channel 1 owns the vector and waits; channel 2 waits behind it. -/
def owned : State := { start with pv := 4#16, irq := true, ch1 := waiting, ch2 := waiting }

/-- A queued step of channel 0 with `size` units left. -/
def queued (size : Word16) : State := { start with ch0 := ready size, pending := [.c0, .c1] }

/-- One presented operation, with draws and a store of another master. -/
def arrived (r : Request) : State := { start with input := [⟨r, ⟨true, false, false⟩, [(0x01000#20, 0x55#8)]⟩] }

theorem witness_DecodeOfEncode : (Instr.bind 31#7 provP 0#8).wellFormed = true := by decide

theorem witness_DecodedWordEncodesBack : decode (rdOp 0x03A#10 .byte) = .instr (.rdDma2sz .byte) := by decide

theorem witness_StepRunsDecodedOperation :
    (arrived (.op (rdOp 0x00E#10 .word))).fault = none ∧
    (arrived (.op (rdOp 0x00E#10 .word))).input =
      ⟨.op (rdOp 0x00E#10 .word), ⟨true, false, false⟩, [(0x01000#20, 0x55#8)]⟩ :: [] ∧
    decode (rdOp 0x00E#10 .word) = .instr (.rdDmaiv .word) := by decide

/-- The first and the last decoded address, a read and a write. -/
theorem witness_AccessByAddressReachesRegister :
    (arrived (.access false 0x00500#20 .word 0#16)).fault = none ∧
    (arrived (.access false 0x00500#20 .word 0#16)).input =
      ⟨.access false 0x00500#20 .word 0#16, ⟨true, false, false⟩, [(0x01000#20, 0x55#8)]⟩ :: [] ∧
    (0x00500#20).toNat = (arrived (.access false 0x00500#20 .word 0#16)).platform.base.toNat + (0x00#7).toNat ∧
    regAt 0x00#7 = some (.global .ctl0) ∧
    (arrived (.access true 0x0053A#20 .byte 3#16)).input =
      ⟨.access true 0x0053A#20 .byte 3#16, ⟨true, false, false⟩, [(0x01000#20, 0x55#8)]⟩ :: [] ∧
    (0x0053A#20).toNat = (arrived (.access true 0x0053A#20 .byte 3#16)).platform.base.toNat + (0x3A#7).toNat ∧
    regAt 0x3A#7 = some (.channel .c2 .sz) := by decide

/-- By word: the offsets 0x0A, 0x1C and 0x7F, the first of a read and the others of a write. -/
theorem witness_UndecodedAccessRaisesConfigAddr_word :
    (arrived (.op ⟨0b000#3 ++ 0x0A#7, .byte, 0#16, provP, 0#8⟩)).fault = none ∧
    (arrived (.op ⟨0b000#3 ++ 0x0A#7, .byte, 0#16, provP, 0#8⟩)).input =
      ⟨.op ⟨(if false then 0b001#3 else 0b000#3) ++ 0x0A#7, .byte, 0#16, provP, 0#8⟩, ⟨true, false, false⟩,
        [(0x01000#20, 0x55#8)]⟩ :: [] ∧
    ∀ off ∈ [0x0A#7, 0x1C#7, 0x40#7, 0x7F#7], off.toNat ∉ [0x00, 0x02, 0x04, 0x06, 0x08, 0x0E] ∧
      ∀ n r : Nat, n < 3 → r ∈ [0x0, 0x2, 0x4, 0x6, 0x8, 0xA] → off.toNat ≠ 0x10 * (n + 1) + r := by
  refine ⟨by decide, by decide, fun off ho => ?_⟩
  simp only [List.mem_cons, List.not_mem_nil, or_false] at ho
  rcases ho with rfl | rfl | rfl | rfl <;>
    exact ⟨by decide, fun n r hn hr => by
      simp only [List.mem_cons, List.not_mem_nil, or_false] at hr
      simp only [BitVec.toNat_ofNat]
      omega⟩

/-- By address: the last address below P_BASE, an undecoded one inside the window, the first past it, the first that does
not fit an operation word. -/
theorem witness_UndecodedAccessRaisesConfigAddr_address :
    (arrived (.access true 0x004FF#20 .word 0#16)).fault = none ∧
    (arrived (.access true 0x004FF#20 .word 0#16)).input =
      ⟨.access true 0x004FF#20 .word 0#16, ⟨true, false, false⟩, [(0x01000#20, 0x55#8)]⟩ :: [] ∧
    (0x004FF#20).toNat < start.platform.base.toNat ∧
    ∀ x ∈ [0x0A, 0x3C, 0x40, 0x80], (0x00500 + x) - start.platform.base.toNat ∉ [0x00, 0x02, 0x04, 0x06, 0x08, 0x0E] ∧
      ∀ n r : Nat, n < 3 → r ∈ [0x0, 0x2, 0x4, 0x6, 0x8, 0xA] →
        (0x00500 + x) - start.platform.base.toNat ≠ 0x10 * (n + 1) + r := by
  refine ⟨by decide, by decide, by decide, fun x hx => ?_⟩
  have hb : start.platform.base.toNat = 0x00500 := by decide
  rw [hb]
  simp only [List.mem_cons, List.not_mem_nil, or_false] at hx
  rcases hx with rfl | rfl | rfl | rfl <;>
    exact ⟨by decide, fun n r hn hr => by
      simp only [List.mem_cons, List.not_mem_nil, or_false] at hr
      omega⟩

theorem witness_ByteAccessRaisesAccessWidth : start.fault = none ∧ regAt 0x10#7 = some (.channel .c0 .ctl) := by decide

theorem witness_FaultedStateAcceptsNothing :
    ({ start with fault := some (.bindRange 32#7) } : State).fault = some (.bindRange 32#7) := by decide

/-- A reserved KIND at both ends, and X ≠ 0 where X is unused, at both ends. -/
theorem witness_ReservedWordsAreRefused :
    (arrived (.op (bareOp 0x300#10))).fault = none ∧
    (arrived (.op (bareOp 0x300#10))).input =
      ⟨.op (bareOp 0x300#10), ⟨true, false, false⟩, [(0x01000#20, 0x55#8)]⟩ :: [] ∧
    (bareOp 0x300#10).word.toNat / 128 = 6 ∧ (bareOp 0x3FF#10).word.toNat / 128 = 7 ∧
    (bareOp 0x101#10).word.toNat / 128 = 2 ∧ (bareOp 0x101#10).word.toNat % 128 ≠ 0 ∧
    (bareOp 0x2FF#10).word.toNat / 128 = 5 ∧ (bareOp 0x2FF#10).word.toNat % 128 ≠ 0 := by decide

theorem witness_BindAboveTableRaisesBindRange :
    (arrived (.op ⟨0b011#3 ++ 32#7, .word, 0#16, provP, 0#8⟩)).fault = none ∧ 31 < (32#7).toNat ∧ 31 < (127#7).toNat ∧
    (arrived (.op ⟨0b011#3 ++ 32#7, .word, 0#16, provP, 0#8⟩)).input =
      ⟨.op ⟨0b011#3 ++ 32#7, .word, 0#16, provP, 0#8⟩, ⟨true, false, false⟩, [(0x01000#20, 0x55#8)]⟩ :: [] := by decide

theorem witness_NothingToDoStops : start.fault = none ∧ start.pending = [] ∧ start.input = [] := by decide

theorem witness_ControlShadowReads : owned.fault = none := by decide

theorem witness_ReservedControlWrites : owned.fault = none := by decide

theorem witness_TriggerSelectWritesRebind : (boundTwice.setTable 31#5 (some ⟨provQ, 1#8⟩)).fault = none := by decide

/-- A free vector, the lowest and the highest owner. -/
theorem witness_AcquireByPriority : legalVector start.pv = true ∧ legalVector owned.pv = true ∧
    legalVector ({ start with pv := 6#16, irq := true } : State).pv = true := by decide

theorem witness_ReleaseHandsVectorOn : legalVector owned.pv = true ∧ legalVector start.pv = true := by decide

theorem witness_ReadDmaivReturnsThenReleases : owned.fault = none ∧ legalVector owned.pv = true := by decide

theorem witness_WriteDmaivReleases : owned.fault = none ∧ legalVector owned.pv = true := by decide

theorem witness_SecondVectorReadIsZero :
    ({ owned with ch2 := Channel.reset } : State).fault = none ∧
    ({ owned with ch2 := Channel.reset } : State).pv = vectorValue (some .c1) ∧
    ∀ m, m ≠ ChIdx.c1 → ((({ owned with ch2 := Channel.reset } : State).ch m).ie &&
      (({ owned with ch2 := Channel.reset } : State).ch m).ifg) = false := by
  refine ⟨by decide, by decide, fun m hm => ?_⟩
  cases m
  · decide
  · exact absurd rfl hm
  · decide

theorem witness_ControlReadMergesLiveFlag : owned.fault = none := by decide

theorem witness_AddressReadsReturnBase : (queued 2#16).fault = none := by decide

theorem witness_SizeReadReturnsLiveCount : (queued 2#16).fault = none := by decide

theorem witness_SourceWritesReseedCursor : (queued 2#16).fault = none := by decide

theorem witness_DestinationWritesReseedCursor : (queued 2#16).fault = none := by decide

theorem witness_SizeWriteSetsCountAndReload :
    (queued 2#16).fault = none ∧ (queued 2#16).pending = .c0 :: [.c1] ∧ ((queued 2#16).ch .c0).en = true := by decide

theorem witness_RepeatedWriteIsIdempotent : owned.fault = none ∧ Reg.channel .c1 .dah ≠ .global .iv ∧
    ∀ n, Reg.channel .c1 .dah ≠ .channel n .ctl := by
  refine ⟨by decide, by decide, fun n h => ?_⟩
  cases h

theorem witness_ControlWriteStoresAndDecodes : owned.fault = none := by decide

/-- One state and one value for each of the three cases: the owner clears its flag; flag and enable; neither. -/
theorem witness_ControlWriteDrivesArbiter :
    owned.fault = none ∧ legalVector owned.pv = true ∧
    ((0x0004#16).getLsbD 3 = false ∧ (owned.ch .c1).ie = true ∧ owned.pv = vectorValue (some .c1)) ∧
    ((0x000C#16).getLsbD 3 = true ∧ (0x000C#16).getLsbD 2 = true) ∧
    (¬ ((0x0004#16).getLsbD 3 = false ∧ (owned.ch .c2).ie = true ∧ owned.pv = vectorValue (some .c2)) ∧
      ¬ ((0x0004#16).getLsbD 3 = true ∧ (0x0004#16).getLsbD 2 = true)) := by decide

/-- A state in which one write schedules two steps, and one in which it schedules none. -/
theorem witness_ControlWriteSchedulesSteps :
    ({ boundTwice with draws := ⟨true, false, false⟩ } : State).fault = none ∧
    legalVector ({ boundTwice with draws := ⟨true, false, false⟩ } : State).pv = true ∧
    ({ boundTwice with draws := ⟨true, false, false⟩ } : State).scheduledBy .c0 0x0011#16 = 2 ∧
    owned.scheduledBy .c0 0x0010#16 = 0 := by decide

/-- The smallest and the largest count, and cursors just outside the window. -/
theorem witness_TransferMovesOneByte :
    (queued 2#16).fault = none ∧ (queued 2#16).pending = .c0 :: [.c1] ∧ Mem.wf (queued 2#16).mem = true ∧
    ((queued 2#16).ch .c0).en = true ∧ 1 < ((queued 2#16).ch .c0).size.toNat ∧
    (queued 2#16).ownWindow ((queued 2#16).ch .c0).cs = false ∧ (queued 2#16).ownWindow ((queued 2#16).ch .c0).cd = false ∧
    (queued 2#16).draws.readFails = false ∧ (queued 2#16).draws.writeFails = false ∧
    1 < ((queued 0xFFFF#16).ch .c0).size.toNat ∧ start.ownWindow 0x00540#20 = false ∧
    start.ownWindow 0x004FF#20 = false := by decide

/-- The last unit of a block, of a single-shot channel and of a repeated one, with `ie` 0 and 1. -/
theorem witness_LastTransferEndsBlock :
    (queued 1#16).fault = none ∧ (queued 1#16).pending = .c0 :: [.c1] ∧ Mem.wf (queued 1#16).mem = true ∧
    legalVector (queued 1#16).pv = true ∧ ((queued 1#16).ch .c0).en = true ∧ ((queued 1#16).ch .c0).size = 1#16 ∧
    (queued 1#16).ownWindow ((queued 1#16).ch .c0).cs = false ∧ (queued 1#16).ownWindow ((queued 1#16).ch .c0).cd = false ∧
    (queued 1#16).draws.readFails = false ∧ (queued 1#16).draws.writeFails = false ∧
    (transferMode ((queued 1#16).ch .c0).mode).isRepeated = false ∧ ((queued 1#16).ch .c0).ie = false ∧
    (transferMode 7#3).isRepeated = true ∧ waiting.ie = true := by decide

theorem witness_DisabledStepOnlyDequeues :
    ({ start with pending := [.c2, .c0] } : State).fault = none ∧
    ({ start with pending := [.c2, .c0] } : State).pending = .c2 :: [.c0] ∧
    (({ start with pending := [.c2, .c0] } : State).ch .c2).en = false := by decide

theorem witness_ZeroSizeStepFaults :
    (queued 0#16).fault = none ∧ (queued 0#16).pending = .c0 :: [.c1] ∧ ((queued 0#16).ch .c0).en = true ∧
    ((queued 0#16).ch .c0).size = 0#16 := by decide

/-- The first and the last address of the window, one as source and one as destination. -/
theorem witness_OwnWindowStepFaults :
    let s := { start with ch0 := { ready 1#16 with cs := 0x00500#20, cd := 0x0053F#20 }, pending := [.c0] }
    s.fault = none ∧ s.pending = .c0 :: [] ∧ (s.ch .c0).en = true ∧ 1 ≤ (s.ch .c0).size.toNat ∧
    s.ownWindow (s.ch .c0).cs = true ∧ s.ownWindow (s.ch .c0).cd = true := by decide

/-- A read that fails, and a write that fails after a good read. -/
theorem witness_BusFailureFaults :
    let s := { queued 1#16 with draws := ⟨false, true, false⟩ }
    let t := { queued 1#16 with draws := ⟨false, false, true⟩ }
    s.fault = none ∧ s.pending = .c0 :: [.c1] ∧ (s.ch .c0).en = true ∧ 1 ≤ (s.ch .c0).size.toNat ∧
    s.ownWindow (s.ch .c0).cs = false ∧ s.ownWindow (s.ch .c0).cd = false ∧ s.draws.readFails = true ∧
    t.fault = none ∧ t.pending = .c0 :: [.c1] ∧ (t.ch .c0).en = true ∧ 1 ≤ (t.ch .c0).size.toNat ∧
    t.ownWindow (t.ch .c0).cs = false ∧ t.ownWindow (t.ch .c0).cd = false ∧ t.draws.readFails = false ∧
    t.draws.writeFails = true := by decide

theorem witness_FireSchedulesBoundChannels : boundTwice.fault = none := by decide

/-- The last legal id and the first illegal one. -/
theorem witness_BindWritesTableEntry :
    boundTwice.fault = none ∧ (31#7).toNat ≤ 31 ∧ 31 < (32#7).toNat := by decide

/-- Each clause: a rebinding of channel 0, one of channel 2, and a written entry. -/
theorem witness_BindingsAreCopies :
    let s := start.setTable 5#5 (some ⟨provP, 2#8⟩)
    see (.wrDmactl0 .word 0x0005#16) s (fun t => decide (t.ch0.bound ≠ s.ch0.bound)) = some true ∧
    see (.wrDmactl1 .word 0x0005#16) s (fun t => decide (t.ch2.bound ≠ s.ch2.bound)) = some true ∧
    see (.bind 6#7 provP 0#8) s (fun t => decide (t.tableAt 6#5 ≠ s.tableAt 6#5)) = some true := by decide

/-- Both hypotheses: a state without a fault mark, and a faulted one. -/
theorem witness_ResetClearsBlock : owned.fault = none ∧
    ({ owned with fault := some (.zeroSize .c0) } : State).fault = some (.zeroSize .c0) := by decide

theorem witness_OnlyStepTouchesBus :
    Instr.fire provP 2#8 ≠ .step ∧ (nextOf (exec (.fire provP 2#8) boundTwice)).isSome = true := by decide

/-- Each clause: a source write, a destination write and a size write that change something. -/
theorem witness_CursorMutators :
    Instr.wrDma0sal .word 1#16 ≠ .step ∧ Instr.wrDma0sal .word 1#16 ≠ .reset ∧
    see (.wrDma0sal .word 1#16) start (fun t => decide (t.ch0.cs ≠ start.ch0.cs)) = some true ∧
    see (.wrDma1dah .word 1#16) start (fun t => decide (t.ch1.cd ≠ start.ch1.cd)) = some true ∧
    see (.wrDma2sz .word 1#16) start (fun t => decide (t.ch2.size ≠ start.ch2.size)) = some true := by decide

/-- Each clause: `en` raised, `ifg` raised by a write and by a STEP, `ie` changed. -/
theorem witness_FlagSetters :
    start.ch0.en = false ∧ see (.wrDma0ctl .word 0x001C#16) start (fun t => (t.ch0.en, t.ch0.ifg, t.ch0.ie)) =
      some (true, true, true) ∧
    (queued 1#16).ch0.ifg = false ∧ see .step (queued 1#16) (fun t => t.ch0.ifg) = some true := by decide

/-- Each clause: RESET, a STEP that completes, a STEP that raises a fault mark, and an operation that appends. -/
theorem witness_PendingQueueIsFifo :
    see .reset (queued 1#16) (fun t => t.pending) = some [] ∧
    see .step (queued 1#16) (fun t => (t.fault, t.pending)) = some (none, [.c1]) ∧
    see .step (queued 0#16) (fun t => (t.fault, t.pending)) = some (some (.zeroSize .c0), [.c0, .c1]) ∧
    see (.fire provP 2#8) boundTwice (fun t => t.pending) = some [.c0, .c2] := by decide

theorem witness_ParametersAreConstant : (nextOf (exec (.rdDmaiv .word) owned)).isSome = true := by decide

/-- A step that ends without a fault mark, and a FIRE after it. -/
theorem witness_FireCommutesWithTransfer :
    ∃ t u, exec .step { boundTwice with pending := [.c0] } = .next t ∧ t.fault = none ∧
      exec (.fire provP 2#8) t = .next u := ⟨_, _, rfl, rfl, rfl⟩

theorem witness_StepKeepsInvariants :
    (arrived (.op (rdOp 0x00E#10 .word))).ok = true ∧
    (nextOf (step (arrived (.op (rdOp 0x00E#10 .word))))).isSome = true := by decide

theorem witness_LineLevelMatchesEvents :
    (arrived (.op (wrOp 0x0B0#10 .word 0x000C#16))).lineOk = true ∧
    (nextOf (step (arrived (.op (wrOp 0x0B0#10 .word 0x000C#16))))).map (fun t => t.irq) = some true := by decide

theorem witness_PriorityInvariantKept :
    owned.priorityOk = true ∧ owned.staleInstr (.wrDma1ctl .word 0x0004#16) = false ∧
    (nextOf (exec (.wrDma1ctl .word 0x0004#16) owned)).isSome = true := by decide

/-- A state in which channel 1 is the lowest that waits, and one in which none waits. -/
theorem witness_VectorReadNamesHighestPriority :
    (owned.fault = none ∧ owned.ok = true ∧ owned.priorityOk = true ∧ (owned.ch .c1).ifg = true ∧
      (owned.ch .c1).ie = true ∧ ∀ m : ChIdx, m.num < ChIdx.c1.num → ((owned.ch m).ifg && (owned.ch m).ie) = false) ∧
    (start.fault = none ∧ start.ok = true ∧ start.priorityOk = true ∧
      ∀ m, ((start.ch m).ifg && (start.ch m).ie) = false) := by
  refine ⟨⟨by decide, by decide, by decide, by decide, by decide, fun m hm => ?_⟩, by decide, by decide, by decide,
    fun m => by cases m <;> decide⟩
  cases m
  · decide
  · exact absurd hm (by decide)
  · exact absurd hm (by decide)

theorem witness_DmaivReadReturnsVectorAndReleases : owned.fault = none ∧ legalVector owned.pv = true := by decide

theorem witness_SuccessfulEndIsFinal : start.successfulEnd = true ∧
    ({ start with fault := some (.zeroSize .c0) } : State).fault.isSome = true := by decide

end Sys2Proof.Tests
end

section
/-! The surroundings of one operation (00_scope.md R10, R13): what an operation never writes, and the trace it only appends
to. One lemma per shared operation, then all operations at once through `exec_end`. -/

namespace Sys2Proof.Machine

/-- From `s` to `t` the parameters, the draws and the input list are kept, and the outputs of `s` are a prefix of those of
`t`. -/
structure State.SurroundingsKept (s t : State) : Prop where
  platform : t.platform = s.platform
  draws : t.draws = s.draws
  input : t.input = s.input
  out : s.out <+: t.out

namespace State.SurroundingsKept

theorem trans {s t u : State} (h : s.SurroundingsKept t) (k : t.SurroundingsKept u) : s.SurroundingsKept u :=
  ⟨k.platform.trans h.platform, k.draws.trans h.draws, k.input.trans h.input, h.out.trans k.out⟩

theorem emit (s : State) (o : Output) : s.SurroundingsKept (s.emit o) := ⟨rfl, rfl, rfl, List.prefix_append ..⟩

theorem returnData (s : State) (v : Word16) : s.SurroundingsKept (s.returnData v) := emit s _

theorem raise (s : State) (m : FaultMark) : s.SurroundingsKept (s.raise m) := ⟨rfl, rfl, rfl, List.prefix_rfl⟩

theorem storeByte (s : State) (a : Addr) (v : Byte) : s.SurroundingsKept (s.storeByte a v) :=
  ⟨rfl, rfl, rfl, List.prefix_rfl⟩

theorem setTable (s : State) (t : TrigId) (b : Binding) : s.SurroundingsKept (s.setTable t b) :=
  ⟨rfl, rfl, rfl, List.prefix_rfl⟩

theorem setCh (s : State) (n : ChIdx) (c : Channel) : s.SurroundingsKept (s.setCh n c) :=
  ⟨by simp, by simp, by simp, by simp⟩

theorem acquire (s : State) (n : ChIdx) : s.SurroundingsKept (s.acquire n) := by
  rw [State.acquire_eq]; exact ⟨rfl, rfl, rfl, List.prefix_append ..⟩

theorem release (s : State) : s.SurroundingsKept s.release := by
  rw [State.release_eq]; exact ⟨rfl, rfl, rfl, List.prefix_append ..⟩

theorem configureArbiter (s : State) (n : ChIdx) (v : Word16) : s.SurroundingsKept (s.configureArbiter n v) := by
  have hc := setCh s n ((s.ch n).decodeCtl v)
  obtain ⟨-, -, -, h⟩ | ⟨-, -, h⟩ | ⟨-, -, h⟩ := State.configureArbiter_cases s n v <;> rw [h]
  · exact hc.trans (release _)
  · exact hc.trans (acquire _ n)
  · exact hc

theorem configure (s : State) (n : ChIdx) (v : Word16) : s.SurroundingsKept (s.configure n v) := by
  rw [State.configure_eq, List.append_assoc]
  exact (configureArbiter s n v).trans ⟨rfl, rfl, rfl, List.prefix_append ..⟩

/-- A register read (R88, R94 to R98, R127 to R131, R135) returns its value; a DMAIV read then runs RELEASE. -/
theorem readEffect (s : State) (r : Reg) : s.SurroundingsKept (s.readEffect r) := by
  rcases r with r | ⟨n, r⟩
  · cases r
    case iv => exact (returnData s _).trans (release _)
    all_goals exact returnData s _
  · cases r <;> exact returnData s _

/-- A register write changes the block's own fields; a write of DMAIV or DMAnCTL also drives the ports. -/
theorem writeEffect (s : State) (d : Word16) (r : Reg) : s.SurroundingsKept (s.writeEffect d r) := by
  rcases r with r | ⟨n, r⟩
  · cases r
    case iv => exact release s
    all_goals exact ⟨rfl, rfl, rfl, List.prefix_rfl⟩
  · cases r
    case ctl => exact configure s n d
    all_goals exact setCh s n _

/-- The bus accesses of a transfer, whether the write lands or not. -/
theorem busAccesses (s : State) (n : ChIdx) : s.SurroundingsKept
    ((s.emit (.busRead (s.ch n).cs)).emit (.busWrite (s.ch n).cd (s.readByte (s.ch n).cs))) :=
  (emit s _).trans (emit _ _)

theorem advance (s : State) (n : ChIdx) : s.SurroundingsKept (s.advance n) := by
  obtain ⟨-, h⟩ | ⟨-, -, h⟩ | ⟨-, -, h⟩ := State.advance_cases s n <;> rw [h]
  · exact setCh s n _
  · exact (setCh s n _).trans (acquire _ n)
  · exact setCh s n _

/-- Each of the six ways a STEP ends (R104 to R112). -/
theorem stepEnd {s t : State} {n : ChIdx} {rest : List ChIdx} (h : StepEnd s n rest t) : s.SurroundingsKept t := by
  cases h with
  | disabled => exact ⟨rfl, rfl, rfl, List.prefix_rfl⟩
  | zeroSize => exact raise s _
  | selfAccess => exact raise s _
  | readFailed => exact (emit s _).trans (raise _ _)
  | writeFailed => exact (busAccesses s n).trans (raise _ _)
  | moved =>
    have kept : s.SurroundingsKept ((s.afterBus n).advance n) :=
      ((busAccesses s n).trans (storeByte _ _ _)).trans (advance _ n)
    exact ⟨kept.platform, kept.draws, kept.input, kept.out⟩

/-- Each way an operation of the table ends. -/
theorem opEnd {s t : State} {i : Instr} (h : OpEnd s i t) : s.SurroundingsKept t := by
  cases h with
  | read r => exact readEffect s r
  | write r d => exact writeEffect s d r
  | byteRead => exact raise s _
  | byteWrite => exact raise s _
  | fire => exact ⟨rfl, rfl, rfl, List.prefix_append ..⟩
  | bindRange => exact raise s _
  | bind => exact (setTable s _ _).trans (emit _ _)
  | step n rest t _ ends => exact stepEnd ends
  | reset => exact ⟨rfl, rfl, rfl, List.prefix_append ..⟩

end State.SurroundingsKept

/-- Settles O46: whichever way the operation ends, its surroundings are kept (`State.SurroundingsKept.opEnd`). -/
theorem parametersAreConstant : Obligations.ParametersAreConstant := by
  intro i s t h
  obtain ⟨platform, draws, input, out⟩ := State.SurroundingsKept.opEnd (exec_end h).2
  exact ⟨platform, draws, input, out⟩

/-- A request that is an operation word does what the word decodes to (R63, R71): no address is looked at. -/
theorem State.serve_op (s : State) (o : Op) : s.serve (.op o) = s.perform (decode o) := rfl

/-- A word that decodes to an operation runs it (R71). -/
theorem State.perform_instr (s : State) (i : Instr) : s.perform (.instr i) = exec i s := rfl

/-- Settles O5: the step serves the arrival at the head of the input list, and serving its word runs the decoded
operation on the state the arrival leaves. -/
theorem stepRunsDecodedOperation : Obligations.StepRunsDecodedOperation := by
  intro s o dr st rest i hf hi hd
  calc step s = (s.arrive ⟨.op o, dr, st⟩ rest).serve (.op o) := step_serve hf hi
    _ = exec i (s.arrive ⟨.op o, dr, st⟩ rest) := by rw [State.serve_op, hd, State.perform_instr]

end Sys2Proof.Machine
end

section
/-! What an operation makes of one channel (R28, R37, R98), said once for all operations: the channel is kept, or it is
changed in one of the ways its own registers, the arbiter, a STEP and RESET have. -/

namespace Sys2Proof.Machine

/-- How an operation leaves channel `n` of the state `s`. -/
inductive ChannelEnd (s : State) (n : ChIdx) : Instr → Channel → Prop where
  | kept (i : Instr) : ChannelEnd s n i (s.ch n)
  /-- R125, R126: a trigger select write copies a table entry -/
  | rebound (i : Instr) (b : Binding) : ChannelEnd s n i { s.ch n with bound := b }
  /-- R114: RELEASE by the owner -/
  | acknowledged (i : Instr) : ChannelEnd s n i (s.ch n).clearFlag
  /-- R82 -/
  | control (v : Word16) : ChannelEnd s n (.wr (.channel n .ctl) .word v) ((s.ch n).decodeCtl v)
  /-- R89 -/
  | sourceLow (v : Word16) :
      ChannelEnd s n (.wr (.channel n .sal) .word v) ((s.ch n).setSource (withLow (s.ch n).sa v))
  /-- R90 -/
  | sourceHigh (v : Word16) :
      ChannelEnd s n (.wr (.channel n .sah) .word v) ((s.ch n).setSource (withHigh (s.ch n).sa v))
  /-- R91 -/
  | destinationLow (v : Word16) :
      ChannelEnd s n (.wr (.channel n .dal) .word v) ((s.ch n).setDestination (withLow (s.ch n).da v))
  /-- R92 -/
  | destinationHigh (v : Word16) :
      ChannelEnd s n (.wr (.channel n .dah) .word v) ((s.ch n).setDestination (withHigh (s.ch n).da v))
  /-- R93 -/
  | count (v : Word16) : ChannelEnd s n (.wr (.channel n .sz) .word v) ((s.ch n).setSize v)
  /-- R106: a transfer inside a block -/
  | moved (size : (s.ch n).size ≠ 0#16) (more : (s.ch n).size - 1#16 ≠ 0#16) : ChannelEnd s n .step (s.ch n).countDown
  /-- R107: the last transfer of a block -/
  | reloaded : ChannelEnd s n .step (s.ch n).countDown.reload
  /-- R164 -/
  | reset : ChannelEnd s n .reset Channel.reset

namespace ChannelEnd

/-- An operation that writes one channel keeps the others. -/
theorem setCh {s : State} {n : ChIdx} {i : Instr} {c : Channel} (h : ChannelEnd s n i c) (m : ChIdx) :
    ChannelEnd s m i ((s.setCh n c).ch m) := by
  rw [State.ch_setCh]
  split
  · next hm => subst hm; exact h
  · exact .kept i

theorem chAfterRelease (s : State) (i : Instr) (n : ChIdx) : ChannelEnd s n i (s.chAfterRelease n) := by
  unfold State.chAfterRelease
  split
  · exact .acknowledged i
  · exact .kept i

theorem readEffect (s : State) (r : Reg) (n : ChIdx) : ChannelEnd s n (.rd r .word) ((s.readEffect r).ch n) := by
  rw [State.readEffect_ch]
  split
  · exact chAfterRelease s _ n
  · exact .kept _

theorem writeEffect (s : State) (v : Word16) (r : Reg) (m : ChIdx) :
    ChannelEnd s m (.wr r .word v) ((s.writeEffect v r).ch m) := by
  rcases r with r | ⟨n, r⟩
  · cases r
    case ctl0 =>
      cases m with
      | c0 => exact .rebound _ _
      | c1 => exact .rebound _ _
      | c2 => exact .kept _
    case ctl1 =>
      cases m with
      | c0 => exact .kept _
      | c1 => exact .kept _
      | c2 => exact .rebound _ _
    case iv => exact State.release_ch s m ▸ chAfterRelease s _ m
    all_goals cases m <;> exact .kept _
  · cases r
    case ctl => exact (State.configure_ch s n m v).trans (State.ch_setCh ..).symm ▸ (control v).setCh m
    case sal => exact (sourceLow v).setCh m
    case sah => exact (sourceHigh v).setCh m
    case dal => exact (destinationLow v).setCh m
    case dah => exact (destinationHigh v).setCh m
    case sz => exact (count v).setCh m

theorem stepEnd {s t : State} {n : ChIdx} {rest : List ChIdx} (h : StepEnd s n rest t) (m : ChIdx) :
    ChannelEnd s m .step (t.ch m) := by
  cases h with
  | moved _ size =>
    have hc : ({ (s.afterBus n).advance n with pending := rest } : State).ch m = ((s.afterBus n).advance n).ch m := by
      cases m <;> rfl
    rw [hc, State.advance_ch]
    simp only [State.ch_afterBus]
    by_cases hm : m = n
    · subst hm
      by_cases hs : (s.ch m).size - 1#16 = 0#16
      · rw [if_pos rfl, if_pos hs]; exact .reloaded
      · rw [if_pos rfl, if_neg hs]; exact .moved size hs
    · rw [if_neg hm]; exact .kept _
  | _ => cases m <;> exact .kept _

/-- Every operation leaves every channel in one of these ways. -/
theorem opEnd {s t : State} {i : Instr} (h : OpEnd s i t) (n : ChIdx) : ChannelEnd s n i (t.ch n) := by
  cases h with
  | read r => exact readEffect s r n
  | write r v => exact writeEffect s v r n
  | step _ _ _ _ ends => exact stepEnd ends n
  | reset => cases n <;> exact .reset
  | _ => cases n <;> exact .kept _

/-- R37: who raises `en`. -/
theorem en_raised {s : State} {n : ChIdx} {i : Instr} {c : Channel} (h : ChannelEnd s n i c)
    (before : (s.ch n).en = false) (after : c.en = true) :
    ∃ v, i = .wr (.channel n .ctl) .word v ∧ v.getLsbD 4 = true := by
  cases h with
  | control v => exact ⟨v, rfl, after⟩
  | reloaded => simp [Channel.reload, Channel.countDown, before] at after
  | reset => cases after
  | _ => exact absurd (before.symm.trans after) Bool.false_ne_true

/-- R37: who raises `ifg`. -/
theorem ifg_raised {s : State} {n : ChIdx} {i : Instr} {c : Channel} (h : ChannelEnd s n i c)
    (before : (s.ch n).ifg = false) (after : c.ifg = true) :
    i = .step ∨ ∃ v, i = .wr (.channel n .ctl) .word v ∧ v.getLsbD 3 = true := by
  cases h with
  | control v => exact .inr ⟨v, rfl, after⟩
  | moved => exact .inl rfl
  | reloaded => exact .inl rfl
  | acknowledged => cases after
  | reset => cases after
  | _ => exact absurd (before.symm.trans after) Bool.false_ne_true

/-- R37: who changes `ie`. -/
theorem ie_changed {s : State} {n : ChIdx} {i : Instr} {c : Channel} (h : ChannelEnd s n i c)
    (changed : c.ie ≠ (s.ch n).ie) :
    i = .reset ∨ ∃ v, i = .wr (.channel n .ctl) .word v ∧ c.ie = v.getLsbD 2 := by
  cases h with
  | control v => exact .inr ⟨v, rfl, rfl⟩
  | reset => exact .inl rfl
  | _ => exact absurd rfl changed

end ChannelEnd

/-- Settles O44: each flag by the ways an operation can leave a channel. -/
theorem flagSetters : Obligations.FlagSetters := by
  intro i s t n h
  have ends := ChannelEnd.opEnd (exec_end h).2 n
  exact ⟨ends.en_raised, ends.ifg_raised, ends.ie_changed⟩

end Sys2Proof.Machine
end

section
/-! What an operation drives on its ports (R32, R34, R116, R138), said once for all operations: the interrupt line follows
the arbiter, and each scheduled step has its event. -/

namespace Sys2Proof.Machine

/-- Is the output an event for the scheduler? -/
def Output.isSchedule : Output → Bool
  | .schedule _ _ => true
  | _ => false

/-- R33 with the owner named: the vector is the owner's, and the line is high while there is one. -/
theorem State.arbiterOk_iff {s : State} : s.arbiterOk = true ↔ ∃ o, s.pv = vectorValue o ∧ s.irq = o.isSome := by
  have hi : ∀ o, (vectorValue o != 0#16) = o.isSome := by
    rintro (_ | n)
    · rfl
    · cases n <;> rfl
  simp only [State.arbiterOk, Bool.and_eq_true, beq_iff_eq]
  constructor
  · rintro ⟨legal, line⟩
    obtain ⟨o, ho⟩ := legalVector_cases legal
    exact ⟨o, ho, by rw [line, ho, hi]⟩
  · rintro ⟨o, hp, line⟩
    rw [hp, line, hi]
    exact ⟨legalVector_vectorValue o, rfl⟩

/-- Everything RESET can do (R164). -/
theorem execReset_next {s t : State} (h : execReset s = .next t) :
    t = { s.chipReset with out := s.out ++ (if s.irq then [s.lineEvent false] else []) } := by
  have e := (execReset_eq (State.accept_next h).1).symm.trans h
  cases e
  rfl

/-- Scheduler events leave the line alone. -/
theorem lineLevel_map_schedule (b : Bool) (q : List ChIdx) : lineLevel b (q.map (.schedule 0#32)) = b := by
  induction q with
  | nil => rfl
  | cons n q ih => exact ih

theorem filter_isSchedule_map (q : List ChIdx) :
    (q.map (.schedule 0#32)).filter Output.isSchedule = q.map (.schedule 0#32) := by
  rw [List.filter_eq_self]
  simp [Output.isSchedule]

/-- The query of an arming write (R85) is no line event. -/
theorem State.lineLevel_queriedBy (s : State) (n : ChIdx) (v : Word16) (b : Bool) : lineLevel b (s.queriedBy n v) = b := by
  unfold State.queriedBy
  split
  · split <;> rfl
  · rfl

/-- The query of an arming write (R85) is no scheduler event. -/
theorem State.filter_queriedBy (s : State) (n : ChIdx) (v : Word16) :
    (s.queriedBy n v).filter Output.isSchedule = [] := by
  unfold State.queriedBy
  split
  · split <;> rfl
  · rfl

/-- From `s` to `t` the arbiter invariant R33 is kept, and the line has the level last driven on it (R32, R116). -/
structure State.LineDriven (s t : State) : Prop where
  arbiter : s.arbiterOk = true → t.arbiterOk = true
  line : ∃ l, t.out = s.out ++ l ∧ t.irq = lineLevel s.irq l

/-- From `s` to `t` moreover the queue only grows, by one event of delay 0 for each entry (R34, R138). -/
structure State.PortsDriven (s t : State) : Prop extends State.LineDriven s t where
  queue : ∃ q l, t.pending = s.pending ++ q ∧ t.out = s.out ++ l ∧ l.filter Output.isSchedule = q.map (.schedule 0#32)

namespace State.PortsDriven

theorem trans {s t u : State} (h : s.PortsDriven t) (k : t.PortsDriven u) : s.PortsDriven u := by
  obtain ⟨⟨harb, l, hl, hline⟩, q, e, hq, he, hev⟩ := h
  obtain ⟨⟨karb, m, kl, kline⟩, r, f, kq, kf, kev⟩ := k
  refine ⟨⟨karb ∘ harb, l ++ m, ?_, ?_⟩, q ++ r, e ++ f, ?_, ?_, ?_⟩
  · rw [kl, hl, List.append_assoc]
  · rw [kline, hline, lineLevel_append]
  · rw [kq, hq, List.append_assoc]
  · rw [kf, he, List.append_assoc]
  · rw [List.filter_append, hev, kev, List.map_append]

/-- An update of something else. -/
theorem of_eq {s t : State} (pv : t.pv = s.pv) (irq : t.irq = s.irq) (pending : t.pending = s.pending)
    (out : t.out = s.out) : s.PortsDriven t where
  arbiter h := by rw [State.arbiterOk, pv, irq]; exact h
  line := ⟨[], by simpa using out, irq⟩
  queue := ⟨[], [], by simpa using pending, by simpa using out, rfl⟩

theorem setCh (s : State) (n : ChIdx) (c : Channel) : s.PortsDriven (s.setCh n c) :=
  of_eq (s.setCh_pv n c) (s.setCh_irq n c) (s.setCh_pending n c) (s.setCh_out n c)

theorem raise (s : State) (m : FaultMark) : s.PortsDriven (s.raise m) := of_eq rfl rfl rfl rfl

theorem storeByte (s : State) (a : Addr) (v : Byte) : s.PortsDriven (s.storeByte a v) := of_eq rfl rfl rfl rfl

theorem setTable (s : State) (t : TrigId) (b : Binding) : s.PortsDriven (s.setTable t b) := of_eq rfl rfl rfl rfl

/-- What the surroundings do before an operation drives nothing (R38, R56). -/
theorem arrive (s : State) (a : Arrival) (rest : List Arrival) : s.PortsDriven (s.arrive a rest) := of_eq rfl rfl rfl rfl

/-- Outputs that are events neither for the line nor for the scheduler. -/
theorem append (s : State) {l : List Output} (line : lineLevel s.irq l = s.irq)
    (schedule : l.filter Output.isSchedule = []) : s.PortsDriven { s with out := s.out ++ l } where
  arbiter := id
  line := ⟨l, rfl, line.symm⟩
  queue := ⟨[], l, (List.append_nil _).symm, rfl, schedule⟩

theorem emit (s : State) {o : Output} (line : ∀ b, lineLevel b [o] = b) (schedule : o.isSchedule = false) :
    s.PortsDriven (s.emit o) :=
  append s (line _) (by rw [List.filter_singleton, schedule]; rfl)

theorem returnData (s : State) (v : Word16) : s.PortsDriven (s.returnData v) := emit s (fun _ => rfl) rfl

/-- Steps scheduled, each with its event. -/
theorem schedule (s : State) (q : List ChIdx) :
    s.PortsDriven { s with pending := s.pending ++ q, out := s.out ++ q.map (.schedule 0#32) } where
  arbiter := id
  line := ⟨_, rfl, (lineLevel_map_schedule _ q).symm⟩
  queue := ⟨q, _, rfl, rfl, filter_isSchedule_map q⟩

/-- ACQUIRE (R113) asserts the line when it takes a free vector. -/
theorem acquire (s : State) (n : ChIdx) : s.PortsDriven (s.acquire n) := by
  rw [State.acquire_eq]
  refine ⟨⟨fun h => ?_, _, rfl, ?_⟩, [], _, (List.append_nil _).symm, rfl, ?_⟩
  · obtain ⟨o, hp, hi⟩ := State.arbiterOk_iff.1 h
    rw [State.arbiterOk_iff]
    simp only [vectorOf_eq]
    split
    · next => exact ⟨some n, rfl, by cases o <;> simp [hi, hp, vectorValue]⟩
    · next hn =>
      have hs : s.pv ≠ 0#16 := fun hz => hn (.inl hz)
      exact ⟨o, hp, by simp [hi, hs]⟩
  · by_cases h : s.pv = 0#16 <;> simp [h, lineLevel, State.lineEvent]
  · by_cases h : s.pv = 0#16 <;> simp [h, Output.isSchedule, State.lineEvent]

/-- RELEASE (R114) deasserts the line, and asserts it again for the next owner. -/
theorem release (s : State) : s.PortsDriven s.release := by
  rw [State.release_eq]
  refine ⟨⟨fun _ => State.arbiterOk_iff.2 ⟨_, rfl, rfl⟩, _, rfl, ?_⟩, [], _, (List.append_nil _).symm, rfl, ?_⟩
  · cases s.waitingAfterRelease <;> rfl
  · cases s.waitingAfterRelease <;> rfl

theorem configureArbiter (s : State) (n : ChIdx) (v : Word16) : s.PortsDriven (s.configureArbiter n v) := by
  have hc := setCh s n ((s.ch n).decodeCtl v)
  obtain ⟨-, -, -, h⟩ | ⟨-, -, h⟩ | ⟨-, -, h⟩ := State.configureArbiter_cases s n v <;> rw [h]
  · exact hc.trans (release _)
  · exact hc.trans (acquire _ n)
  · exact hc

/-- CONFIGURE (R81): the arbiter part, the query, then the scheduled steps. -/
theorem configure (s : State) (n : ChIdx) (v : Word16) : s.PortsDriven (s.configure n v) := by
  have hp : (s.configureArbiter n v).pending = s.pending := by rw [State.configureArbiter_frame]
  rw [State.configure_eq, ← hp, ← List.map_replicate]
  exact ((configureArbiter s n v).trans (append _ (s.lineLevel_queriedBy n v _) (s.filter_queriedBy n v))).trans
    (schedule _ _)

theorem readEffect (s : State) (r : Reg) : s.PortsDriven (s.readEffect r) := by
  rcases r with r | ⟨n, r⟩
  · cases r
    case iv => exact (returnData s _).trans (release _)
    all_goals exact returnData s _
  · cases r <;> exact returnData s _

theorem writeEffect (s : State) (v : Word16) (r : Reg) : s.PortsDriven (s.writeEffect v r) := by
  rcases r with r | ⟨n, r⟩
  · cases r
    case iv => exact release s
    all_goals exact of_eq rfl rfl rfl rfl
  · cases r
    case ctl => exact configure s n v
    all_goals exact setCh s n _

theorem advance (s : State) (n : ChIdx) : s.PortsDriven (s.advance n) := by
  obtain ⟨-, h⟩ | ⟨-, -, h⟩ | ⟨-, -, h⟩ := State.advance_cases s n <;> rw [h]
  · exact setCh s n _
  · exact (setCh s n _).trans (acquire _ n)
  · exact setCh s n _

/-- The bus accesses of a transfer, whether the write lands or not. -/
theorem busAccesses (s : State) (n : ChIdx) : s.PortsDriven
    ((s.emit (.busRead (s.ch n).cs)).emit (.busWrite (s.ch n).cd (s.readByte (s.ch n).cs))) :=
  (emit s (fun _ => rfl) rfl).trans (emit _ (fun _ => rfl) rfl)

/-- Every operation but STEP and RESET, which take from the queue (R57). -/
theorem opEnd {s t : State} {i : Instr} (h : OpEnd s i t) (reset : i ≠ .reset) (step : i ≠ .step) : s.PortsDriven t := by
  cases h with
  | read r => exact readEffect s r
  | write r v => exact writeEffect s v r
  | byteRead => exact raise s _
  | byteWrite => exact raise s _
  | fire => exact schedule s _
  | bindRange => exact raise s _
  | bind => exact (setTable s _ _).trans (emit _ (fun _ => rfl) rfl)
  | step => exact absurd rfl step
  | reset => exact absurd rfl reset

end State.PortsDriven

namespace State.LineDriven

/-- Each of the six ways a STEP ends (R104 to R112), the queue aside. -/
theorem stepEnd {s t : State} {n : ChIdx} {rest : List ChIdx} (h : StepEnd s n rest t) : s.LineDriven t := by
  cases h with
  | disabled => exact ⟨id, [], (List.append_nil _).symm, rfl⟩
  | zeroSize => exact (PortsDriven.raise s _).toLineDriven
  | selfAccess => exact (PortsDriven.raise s _).toLineDriven
  | readFailed => exact ((PortsDriven.emit s (fun _ => rfl) rfl).trans (.raise _ _)).toLineDriven
  | writeFailed => exact ((PortsDriven.busAccesses s n).trans (.raise _ _)).toLineDriven
  | moved =>
    have driven : s.PortsDriven ((s.afterBus n).advance n) :=
      ((PortsDriven.busAccesses s n).trans (.storeByte _ _ _)).trans (.advance _ n)
    exact ⟨driven.arbiter, driven.line⟩

/-- RESET (R164) frees the vector and deasserts an asserted line. -/
theorem reset (s : State) :
    s.LineDriven { s.chipReset with out := s.out ++ (if s.irq then [s.lineEvent false] else []) } := by
  refine ⟨fun _ => State.arbiterOk_iff.2 ⟨none, rfl, rfl⟩, _, rfl, ?_⟩
  cases h : s.irq <;> simp [lineLevel, State.lineEvent]

/-- Every operation of the table. -/
theorem of_exec {i : Instr} {s t : State} (h : exec i s = .next t) : s.LineDriven t := by
  by_cases hr : i = .reset
  · subst hr
    exact execReset_next h ▸ reset s
  · by_cases hs : i = .step
    · subst hs
      obtain ⟨-, n, rest, -, stepEnds⟩ := execStep_cases h
      exact stepEnd stepEnds
    · exact (PortsDriven.opEnd (exec_end h).2 hr hs).toLineDriven

theorem trans {s t u : State} (h : s.LineDriven t) (k : t.LineDriven u) : s.LineDriven u := by
  obtain ⟨harb, l, hl, hline⟩ := h
  obtain ⟨karb, m, kl, kline⟩ := k
  exact ⟨karb ∘ harb, l ++ m, by rw [kl, hl, List.append_assoc], by rw [kline, hline, lineLevel_append]⟩

/-- Every step that answers a next state. -/
theorem of_step {s t : State} (h : step s = .next t) : s.LineDriven t := by
  obtain ⟨-, a, rest, -, ⟨i, run⟩ | ⟨m, rfl⟩⟩ := step_cases h
  · exact (PortsDriven.arrive s a rest).toLineDriven.trans (of_exec run)
  · exact ((PortsDriven.arrive s a rest).trans (.raise _ m)).toLineDriven

/-- R32: the level last driven is carried on. -/
theorem lineOk {s t : State} (h : s.LineDriven t) (ok : s.lineOk = true) : t.lineOk = true := by
  obtain ⟨-, l, hl, hline⟩ := h
  simp only [State.lineOk, beq_iff_eq] at ok ⊢
  rw [hline, hl, lineLevel_append, ok]

end State.LineDriven

/-- Settles O50: the level at the end of the trace, through the outputs the step appends. -/
theorem lineLevelMatchesEvents : Obligations.LineLevelMatchesEvents :=
  fun _ _ ok h => (State.LineDriven.of_step h).lineOk ok

/-- How a STEP leaves the queue: it takes the head, or stops with a fault mark and leaves it (log 2). -/
theorem StepEnd.queue {s t : State} {n : ChIdx} {rest : List ChIdx} (h : StepEnd s n rest t) (hf : s.fault = none) :
    t.fault = none ∧ t.pending = rest ∨ t.fault.isSome ∧ t.pending = s.pending := by
  cases h with
  | disabled => exact .inl ⟨hf, rfl⟩
  | zeroSize => exact .inr ⟨rfl, rfl⟩
  | selfAccess => exact .inr ⟨rfl, rfl⟩
  | readFailed => exact .inr ⟨rfl, rfl⟩
  | writeFailed => exact .inr ⟨rfl, rfl⟩
  | moved => exact .inl ⟨by rw [State.advance_frame]; exact hf, rfl⟩

/-- Settles O45: RESET, STEP, and every other operation by what it drives on its ports. -/
theorem pendingQueueIsFifo : Obligations.PendingQueueIsFifo := by
  intro i s t h
  obtain ⟨hf, ends⟩ := exec_end h
  refine ⟨?_, ?_, fun hr hs => ?_⟩
  · rintro rfl
    rw [execReset_next h]
    rfl
  · rintro rfl
    obtain ⟨-, n, rest, hq, stepEnds⟩ := execStep_cases h
    refine (stepEnds.queue hf).imp_left fun ⟨hn, hp⟩ => ⟨hn, n, ?_⟩
    rw [hq, hp]
  · obtain ⟨q, l, hq, hl, events⟩ := (State.PortsDriven.opEnd ends hr hs).queue
    refine ⟨q, hq, ?_⟩
    rw [hl, List.drop_left]
    exact events

end Sys2Proof.Machine
end

section
/-! The invariants of the block (R28, R33, R36, R98) and the canonical form of the memory: what each operation does to the
arbiter, to a channel and to the memory keeps them. -/

namespace Sys2Proof.Machine

/-- `Channel.ok`, clause by clause. -/
structure Channel.Ok (c : Channel) : Prop where
  size_le : c.size ≤ c.total
  size_zero : c.size = 0#16 → c.total = 0#16
  mode : c.mode = c.cw.extractLsb' 12 3
  dstStep : c.dstStep = stepOfCode (c.cw.extractLsb' 10 2)
  srcStep : c.srcStep = stepOfCode (c.cw.extractLsb' 8 2)
  dstByte : c.dstByte = c.cw.getLsbD 7
  srcByte : c.srcByte = c.cw.getLsbD 6
  level : c.level = c.cw.getLsbD 5
  ie : c.ie = c.cw.getLsbD 2

theorem Channel.ok_iff {c : Channel} : c.ok = true ↔ c.Ok := by
  have hz : (c.size != 0#16 || c.total == 0#16) = true ↔ (c.size = 0#16 → c.total = 0#16) := by
    simp [Classical.or_iff_not_imp_left]
  simp only [Channel.ok, Bool.and_eq_true, hz, decide_eq_true_eq, beq_iff_eq, and_assoc]
  constructor
  · rintro ⟨size_le, size_zero, mode, dstStep, srcStep, dstByte, srcByte, level, ie⟩
    exact { size_le, size_zero, mode, dstStep, srcStep, dstByte, srcByte, level, ie }
  · rintro ⟨size_le, size_zero, mode, dstStep, srcStep, dstByte, srcByte, level, ie⟩
    exact ⟨size_le, size_zero, mode, dstStep, srcStep, dstByte, srcByte, level, ie⟩

namespace Channel.Ok

/-- RELEASE clears a bit of the stored word that no decoded field but `ifg` holds (R114). -/
theorem clearFlag {c : Channel} (h : c.Ok) : c.clearFlag.Ok where
  size_le := h.size_le
  size_zero := h.size_zero
  mode := h.mode.trans (extractLsb'_clearFlag c.cw (by omega) (by omega)).symm
  dstStep := h.dstStep.trans (congrArg stepOfCode (extractLsb'_clearFlag c.cw (by omega) (by omega)).symm)
  srcStep := h.srcStep.trans (congrArg stepOfCode (extractLsb'_clearFlag c.cw (by omega) (by omega)).symm)
  dstByte := h.dstByte.trans (getLsbD_clearFlag c.cw (by omega) (by omega)).symm
  srcByte := h.srcByte.trans (getLsbD_clearFlag c.cw (by omega) (by omega)).symm
  level := h.level.trans (getLsbD_clearFlag c.cw (by omega) (by omega)).symm
  ie := h.ie.trans (getLsbD_clearFlag c.cw (by omega) (by omega)).symm

theorem decodeCtl {c : Channel} (h : c.Ok) (v : Word16) : (c.decodeCtl v).Ok :=
  ⟨h.size_le, h.size_zero, rfl, rfl, rfl, rfl, rfl, rfl, rfl⟩

theorem setSize {c : Channel} (h : c.Ok) (v : Word16) : (c.setSize v).Ok :=
  { h with size_le := BitVec.le_refl v, size_zero := id }

/-- A count above 1 goes down by one without passing 0 (R106). -/
theorem countDown {c : Channel} (h : c.Ok) (size : c.size ≠ 0#16) (more : c.size - 1#16 ≠ 0#16) : c.countDown.Ok :=
  { h with
    size_le := by
      have le : c.size.toNat ≤ c.total.toNat := h.size_le
      show (c.size - 1#16).toNat ≤ c.total.toNat
      bv_omega
    size_zero := fun zero => absurd zero more }

/-- The end of a block reloads `total` (R107). -/
theorem reload {c : Channel} (h : c.Ok) : c.countDown.reload.Ok :=
  { h with size_le := BitVec.le_refl c.total, size_zero := id }

/-- Whatever an operation does to a channel keeps the channel's invariants. -/
theorem channelEnd {s : State} {n : ChIdx} {i : Instr} {c : Channel} (ok : (s.ch n).Ok) (h : ChannelEnd s n i c) : c.Ok := by
  cases h with
  | kept => exact ok
  | rebound => exact { ok with }
  | acknowledged => exact ok.clearFlag
  | control v => exact ok.decodeCtl v
  | sourceLow => exact { ok with }
  | sourceHigh => exact { ok with }
  | destinationLow => exact { ok with }
  | destinationHigh => exact { ok with }
  | count v => exact ok.setSize v
  | moved size more => exact ok.countDown size more
  | reloaded => exact ok.reload
  | reset => exact Channel.ok_iff.1 (by decide)

end Channel.Ok

theorem State.readEffect_mem (s : State) (r : Reg) : (s.readEffect r).mem = s.mem := by
  rcases r with r | ⟨n, r⟩
  · cases r
    case iv => rw [State.readEffect, State.release_eq]; rfl
    all_goals rfl
  · cases r <;> rfl

theorem State.configure_mem (s : State) (n : ChIdx) (v : Word16) : (s.configure n v).mem = s.mem := by
  rw [State.configure_eq, State.configureArbiter_frame]

theorem State.writeEffect_mem (s : State) (v : Word16) (r : Reg) : (s.writeEffect v r).mem = s.mem := by
  rcases r with r | ⟨n, r⟩
  · cases r
    case iv => rw [State.writeEffect, State.release_eq]
    all_goals rfl
  · cases r
    case ctl => exact State.configure_mem s n v
    all_goals exact State.setCh_mem s n _

/-- R51: only a STEP stores to the bus memory. -/
theorem OpEnd.mem_eq {s t : State} {i : Instr} (h : OpEnd s i t) (step : i ≠ .step) : t.mem = s.mem := by
  cases h with
  | read r => exact State.readEffect_mem s r
  | write r v => exact State.writeEffect_mem s v r
  | step => exact absurd rfl step
  | _ => rfl

/-- A STEP keeps the memory or stores one byte. -/
theorem StepEnd.mem_wf {s t : State} {n : ChIdx} {rest : List ChIdx} (h : StepEnd s n rest t) (wf : Mem.wf s.mem = true) :
    Mem.wf t.mem = true := by
  cases h with
  | moved =>
    show Mem.wf ((s.afterBus n).advance n).mem = true
    rw [State.advance_frame]
    exact Mem.write_wf _ _ wf
  | _ => exact wf

theorem exec_mem_wf {i : Instr} {s t : State} (h : exec i s = .next t) (wf : Mem.wf s.mem = true) : Mem.wf t.mem = true := by
  by_cases hs : i = .step
  · subst hs
    obtain ⟨-, n, rest, -, ends⟩ := execStep_cases h
    exact ends.mem_wf wf
  · rw [(exec_end h).2.mem_eq hs]; exact wf

/-- `State.ok`, the three channels as one clause. -/
theorem State.ok_iff {s : State} :
    s.ok = true ↔ s.arbiterOk = true ∧ (∀ n, (s.ch n).ok = true) ∧ Mem.wf s.mem = true := by
  simp only [State.ok, Bool.and_eq_true]
  constructor
  · rintro ⟨⟨⟨⟨arbiter, h0⟩, h1⟩, h2⟩, wf⟩
    exact ⟨arbiter, fun n => by cases n <;> assumption, wf⟩
  · rintro ⟨arbiter, channels, wf⟩
    exact ⟨⟨⟨⟨arbiter, channels .c0⟩, channels .c1⟩, channels .c2⟩, wf⟩

/-- Every operation keeps the invariants. -/
theorem exec_keeps_ok {i : Instr} {s t : State} (ok : s.ok = true) (h : exec i s = .next t) : t.ok = true := by
  obtain ⟨arbiter, channels, wf⟩ := State.ok_iff.1 ok
  refine State.ok_iff.2 ⟨(State.LineDriven.of_exec h).arbiter arbiter, fun n => ?_, exec_mem_wf h wf⟩
  exact Channel.ok_iff.2 ((Channel.ok_iff.1 (channels n)).channelEnd (ChannelEnd.opEnd (exec_end h).2 n))

/-- The stores of other bus masters keep the invariants (R56). -/
theorem State.arrive_ok {s : State} (ok : s.ok = true) (a : Arrival) (rest : List Arrival) :
    (s.arrive a rest).ok = true := by
  obtain ⟨arbiter, channels, wf⟩ := State.ok_iff.1 ok
  exact State.ok_iff.2 ⟨arbiter, fun n => by rw [State.ch_arrive]; exact channels n, storeAll_wf a.stores wf⟩

/-- Settles O49: the arrival keeps the invariants, and so does the operation it presents; a fault mark is no part of
them. -/
theorem stepKeepsInvariants : Obligations.StepKeepsInvariants := by
  intro s t ok h
  obtain ⟨-, a, rest, -, ⟨i, run⟩ | ⟨m, rfl⟩⟩ := step_cases h
  · exact exec_keeps_ok (State.arrive_ok ok a rest) run
  · exact State.arrive_ok ok a rest

/-- Settles O48: the state of R39 has vector 0 and the line low, three channels all zero and nothing driven or stored. -/
theorem powerUpMeetsInvariants : Obligations.PowerUpMeetsInvariants := by
  have channel : Channel.reset.ok = true := by decide
  refine ⟨State.ok_iff.2 ⟨State.arbiterOk_iff.2 ⟨none, rfl, rfl⟩, fun n => ?_, rfl⟩, rfl, rfl⟩
  cases n <;> exact channel

end Sys2Proof.Machine
end

section
/-! Register accesses at the port (R42, R44, R65, R121 to R123): what an access at an offset decodes to, by word and by bus
address. -/

namespace Sys2Proof.Machine

/-- The registers below 0x10 and their offsets (R19). -/
theorem offsetOf_global_mem (r : GlobalReg) :
    (offsetOf (.global r)).toNat ∈ [0x00, 0x02, 0x04, 0x06, 0x08, 0x0E] := by
  cases r <;> decide

/-- A channel's registers stand in its own 16-byte block (R19, R29). -/
theorem offsetOf_channel_toNat (n : ChIdx) (r : ChannelReg) :
    ∃ k ∈ [0x0, 0x2, 0x4, 0x6, 0x8, 0xA], (offsetOf (.channel n r)).toNat = 0x10 * (n.num + 1) + k := by
  cases n <;> cases r <;> decide

theorem channelNum_lt (n : ChIdx) : n.num < 3 := by cases n <;> decide

/-- R44: an offset outside the 24 of the map decodes to no register. -/
theorem regAt_eq_none {x : BitVec 7} (global : x.toNat ∉ [0x00, 0x02, 0x04, 0x06, 0x08, 0x0E])
    (channel : ∀ n r : Nat, n < 3 → r ∈ [0x0, 0x2, 0x4, 0x6, 0x8, 0xA] → x.toNat ≠ 0x10 * (n + 1) + r) :
    regAt x = none := by
  cases h : regAt x with
  | none => rfl
  | some r =>
    obtain rfl := offsetOf_regAt h
    rcases r with r | ⟨n, r⟩
    · exact absurd (offsetOf_global_mem r) global
    · obtain ⟨k, hk, off⟩ := offsetOf_channel_toNat n r
      exact absurd off (channel n.num k (channelNum_lt n) hk)

/-- R66: an access at a decoded offset is the read or the write of its register. -/
theorem decode_access_some {x : BitVec 7} {r : Reg} (h : regAt x = some r) (wr : Bool) (w : Width) (d : Word16)
    (p : Provider) (k : Byte) :
    decode ⟨accessWord wr x, w, d, p, k⟩ = .instr (if wr then .wr r w d else .rd r w) := by
  cases wr with
  | true => exact (decode_wr x w d p k).trans (by rw [h]; rfl)
  | false => exact (decode_rd x w d p k).trans (by rw [h]; rfl)

/-- R71: an access at any other offset is CONFIG_ADDR. -/
theorem decode_access_none {x : BitVec 7} (h : regAt x = none) (wr : Bool) (w : Width) (d : Word16) (p : Provider)
    (k : Byte) : decode ⟨accessWord wr x, w, d, p, k⟩ = .configAddr x := by
  cases wr with
  | true => exact (decode_wr x w d p k).trans (by rw [h])
  | false => exact (decode_rd x w d p k).trans (by rw [h])

/-- The bus address of an offset is the address it was formed from (R42). -/
theorem State.busAddr_eq {s : State} {addr : Addr} {x : BitVec 7}
    (h : addr.toNat = s.platform.base.toNat + x.toNat) : s.busAddr x = addr := by
  apply BitVec.eq_of_toNat_eq
  have := addr.isLt
  simp only [State.busAddr, BitVec.toNat_add, BitVec.toNat_setWidth]
  omega

/-- An access the port finds outside the decoded range raises CONFIG_ADDR (R65). -/
theorem State.serve_outside {s : State} {r : Request} {addr : Addr} (h : formOp s.platform.base r = .outside addr) :
    s.serve r = .next (s.raise (.configAddr addr)) := by
  rw [State.serve, h]

/-- An access of which the port forms a word does what the word decodes to (R42). -/
theorem State.serve_formed {s : State} {r : Request} {o : Op} (h : formOp s.platform.base r = .op o) :
    s.serve r = s.perform (decode o) := by
  rw [State.serve, h]

/-- An access by bus address at a decoded offset runs the register's operation (R42, R123). -/
theorem State.serve_access_some {s : State} {addr : Addr} {x : BitVec 7} {r : Reg}
    (at_off : addr.toNat = s.platform.base.toNat + x.toNat) (h : regAt x = some r) (wr : Bool) (w : Width) (d : Word16) :
    s.serve (.access wr addr w d) = exec (if wr then .wr r w d else .rd r w) s := by
  rw [State.serve_formed (formOp_at at_off wr w d), decode_access_some h, State.perform_instr]

/-- An access by word at an offset that is not decoded raises CONFIG_ADDR (R121). -/
theorem State.serve_word_none (s : State) {x : BitVec 7} (h : regAt x = none) (wr : Bool) (w : Width) (d : Word16)
    (p : Provider) (k : Byte) :
    s.serve (.op ⟨accessWord wr x, w, d, p, k⟩) = .next (s.raise (.configAddr (s.busAddr x))) := by
  rw [State.serve_op, decode_access_none h]
  rfl

/-- An access by bus address at an offset that is not decoded raises CONFIG_ADDR with that address (R121). -/
theorem State.serve_access_none {s : State} {addr : Addr} {x : BitVec 7}
    (at_off : addr.toNat = s.platform.base.toNat + x.toNat) (h : regAt x = none) (wr : Bool) (w : Width) (d : Word16) :
    s.serve (.access wr addr w d) = .next (s.raise (.configAddr addr)) := by
  rw [State.serve_formed (formOp_at at_off wr w d), ← State.serve_op, State.serve_word_none s h, State.busAddr_eq at_off]

/-- Settles O6: serving the address runs the operation of the register at its offset, on the state the arrival leaves. -/
theorem accessByAddressReachesRegister : Obligations.AccessByAddressReachesRegister := by
  intro s isWrite addr w d dr st rest off r hf hi at_off hr
  rw [step_serve hf hi]
  exact State.serve_access_some (s := s.arrive _ rest) at_off hr isWrite w d

/-- Settles O7: by word, the offset decodes to no register; by address, the address lies below P_BASE, 0x80 or more above
it, or at an offset that decodes to no register. -/
theorem undecodedAccessRaisesConfigAddr : Obligations.UndecodedAccessRaisesConfigAddr := by
  constructor
  · intro s isWrite off w d p k dr st rest hf hi global channel
    rw [step_serve hf hi]
    exact State.serve_word_none _ (regAt_eq_none global channel) isWrite w d p k
  · intro s isWrite addr w d dr st rest hf hi undecoded
    rw [step_serve hf hi]
    by_cases below : addr.toNat < s.platform.base.toNat
    · exact State.serve_outside (formOp_below below isWrite w d)
    by_cases above : s.platform.base.toNat + 0x80 ≤ addr.toNat
    · exact State.serve_outside (formOp_above above isWrite w d)
    obtain ⟨global, channel⟩ := undecoded.resolve_left below
    have off : (BitVec.ofNat 7 (addr.toNat - s.platform.base.toNat)).toNat = addr.toNat - s.platform.base.toNat := by
      rw [BitVec.toNat_ofNat, Nat.mod_eq_of_lt (by omega)]
    rw [← off] at global channel
    exact State.serve_access_none (by rw [State.arrive_platform, off]; omega) (regAt_eq_none global channel) isWrite w d

/-- Settles O8: the width check at the offset of the register (R122). -/
theorem byteAccessRaisesAccessWidth : Obligations.ByteAccessRaisesAccessWidth := by
  intro s off r d hf hr
  obtain rfl := offsetOf_regAt hr
  exact ⟨(exec_rd r .byte s).trans (State.portAccess_byte hf _ _),
    (exec_wr r .byte d s).trans (State.portAccess_byte hf _ _)⟩

end Sys2Proof.Machine
end

section
/-! Register writes repeated (R50). -/

namespace Sys2Proof.Machine

@[simp] theorem withLow_withLow (a : Addr) (v w : Word16) : withLow (withLow a v) w = withLow a w := by
  apply BitVec.eq_of_toNat_eq
  have := v.isLt
  rw [withLow_toNat, withLow_toNat, withLow_toNat]
  omega

@[simp] theorem withHigh_withHigh (a : Addr) (v w : Word16) : withHigh (withHigh a v) w = withHigh a w := by
  apply BitVec.eq_of_toNat_eq
  rw [withHigh_toNat, withHigh_toNat, withHigh_toNat]
  omega

theorem State.configure_fault (s : State) (n : ChIdx) (v : Word16) : (s.configure n v).fault = s.fault := by
  rw [State.configure_eq, State.configureArbiter_frame]

/-- A register write sets no fault mark. -/
theorem State.writeEffect_fault (s : State) (v : Word16) (r : Reg) : (s.writeEffect v r).fault = s.fault := by
  rcases r with r | ⟨n, r⟩
  · cases r
    case iv => rw [State.writeEffect, State.release_eq]
    all_goals rfl
  · cases r
    case ctl => exact State.configure_fault s n v
    all_goals exact State.setCh_fault s n _

/-- R50: a channel register but DMAnCTL, written twice. -/
theorem State.writeEffect_channel_idem (s : State) (d : Word16) {n : ChIdx} {r : ChannelReg} (ctl : r ≠ .ctl) :
    (s.writeEffect d (.channel n r)).writeEffect d (.channel n r) = s.writeEffect d (.channel n r) := by
  cases r
  case ctl => exact absurd rfl ctl
  all_goals simp [State.writeEffect, Channel.setSource, Channel.setDestination, Channel.setSize]

/-- R50: a global register but DMAIV, written twice: the table the bindings are copied from is kept. -/
theorem State.writeEffect_global_idem (s : State) (d : Word16) {r : GlobalReg} (iv : r ≠ .iv) :
    (s.writeEffect d (.global r)).writeEffect d (.global r) = s.writeEffect d (.global r) := by
  cases r
  case iv => exact absurd rfl iv
  all_goals rfl

/-- Settles O27: both writes complete, and the second leaves what the first left. -/
theorem repeatedWriteIsIdempotent : Obligations.RepeatedWriteIsIdempotent := by
  intro s r d hf iv ctl
  refine ⟨s.writeEffect d r, exec_wr_word hf r d, ?_⟩
  rw [exec_wr_word ((s.writeEffect_fault d r).trans hf)]
  rcases r with r | ⟨n, r⟩
  · rw [State.writeEffect_global_idem s d fun h => iv (congrArg _ h)]
  · rw [State.writeEffect_channel_idem s d fun h => ctl n (congrArg _ h)]

end Sys2Proof.Machine
end

section
/-! The bus master port (R51, R53, R62): the accesses on it, and a STEP computed from how it ends. -/

namespace Sys2Proof.Machine

/-- A STEP whose checks and draws are those of one of the six endings ends so: `execStep_end` read backwards. -/
theorem StepEnd.execStep_eq {s t : State} {n : ChIdx} {rest : List ChIdx} (h : StepEnd s n rest t)
    (hf : s.fault = none) (hp : s.pending = n :: rest) : execStep s = .next t := by
  rw [execStep, State.accept_none hf, hp]
  cases h with
  | disabled en => simp [State.transfer, en]
  | zeroSize en size => simp [State.transfer, en, size]
  | selfAccess en size window => simp only [State.transfer, en, size, window, if_true, if_false, Bool.true_eq_false]
  | readFailed en size window read =>
    simp only [State.transfer, State.moveByte, State.memRead, en, size, window, read, if_true, if_false, Bool.true_eq_false]
  | writeFailed en size window read write =>
    simp [State.transfer, State.moveByte, State.memRead, State.memWrite, en, size, window, read, write]
  | moved en size window read write =>
    simp [State.transfer, State.moveByte, State.memRead, State.memWrite, State.afterBus, en, size, window, read, write]

/-- Settles O35: the check of the window in the form of R53, and the ending it leads to (R111). -/
theorem ownWindowStepFaults : Obligations.OwnWindowStepFaults := by
  intro s n rest hf hp en size window
  have size_ne : (s.ch n).size ≠ 0#16 := by bv_omega
  rw [← State.inWindow_eq, ← State.inWindow_eq] at window
  exact (StepEnd.selfAccess en size_ne window).execStep_eq hf hp

/-- Is the output an access on the bus master port? -/
def Output.isBus : Output → Bool
  | .busRead _ | .busWrite _ _ => true
  | .readData _ | .setLine _ _ _ | .schedule _ _ | .query _ _ | .registerDMA _ => false

/-- The bus accesses driven so far, oldest first. -/
def State.busTrace (s : State) : List Output := s.out.filter Output.isBus

/-- Outputs on the other ports add no bus access. -/
theorem State.busTrace_append {s t : State} {l : List Output} (out : t.out = s.out ++ l)
    (other : ∀ o ∈ l, o.isBus = false) : t.busTrace = s.busTrace := by
  have none_of_l : l.filter Output.isBus = [] := by
    rw [List.filter_eq_nil_iff]
    exact fun o ho => by simp [other o ho]
  rw [State.busTrace, out, List.filter_append, none_of_l, List.append_nil]
  rfl

theorem State.returnData_busTrace (s : State) (v : Word16) : (s.returnData v).busTrace = s.busTrace :=
  State.busTrace_append (s.returnData_out v) (by simp [Output.isBus])

theorem State.setCh_busTrace (s : State) (n : ChIdx) (c : Channel) : (s.setCh n c).busTrace = s.busTrace :=
  congrArg (List.filter Output.isBus) (s.setCh_out n c)

theorem State.acquire_busTrace (s : State) (n : ChIdx) : (s.acquire n).busTrace = s.busTrace := by
  rw [State.acquire_eq]
  refine State.busTrace_append rfl ?_
  split <;> simp [State.lineEvent, Output.isBus]

theorem State.release_busTrace (s : State) : s.release.busTrace = s.busTrace := by
  rw [State.release_eq]
  refine State.busTrace_append rfl ?_
  split <;> simp [State.lineEvent, Output.isBus]

theorem State.configureArbiter_busTrace (s : State) (n : ChIdx) (v : Word16) :
    (s.configureArbiter n v).busTrace = s.busTrace := by
  obtain ⟨-, -, -, h⟩ | ⟨-, -, h⟩ | ⟨-, -, h⟩ := State.configureArbiter_cases s n v <;> rw [h]
  · rw [State.release_busTrace, State.setCh_busTrace]
  · rw [State.acquire_busTrace, State.setCh_busTrace]
  · rw [State.setCh_busTrace]

/-- The query of an arming write (R85) is no bus access. -/
theorem State.isBus_queriedBy {s : State} {n : ChIdx} {v : Word16} {o : Output} (h : o ∈ s.queriedBy n v) :
    o.isBus = false := by
  unfold State.queriedBy at h
  split at h
  · split at h
    · rw [List.mem_singleton.1 h]; rfl
    · cases h
  · cases h

theorem State.configure_busTrace (s : State) (n : ChIdx) (v : Word16) : (s.configure n v).busTrace = s.busTrace := by
  rw [← State.configureArbiter_busTrace s n v, State.configure_eq, List.append_assoc]
  refine State.busTrace_append rfl fun o ho => ?_
  rcases List.mem_append.1 ho with query | schedule
  · exact State.isBus_queriedBy query
  · rw [List.eq_of_mem_replicate schedule]; rfl

theorem State.readEffect_busTrace (s : State) (r : Reg) : (s.readEffect r).busTrace = s.busTrace := by
  rcases r with r | ⟨n, r⟩
  · cases r
    case iv => exact (State.release_busTrace _).trans (s.returnData_busTrace _)
    all_goals exact s.returnData_busTrace _
  · cases r <;> exact s.returnData_busTrace _

theorem State.writeEffect_busTrace (s : State) (d : Word16) (r : Reg) : (s.writeEffect d r).busTrace = s.busTrace := by
  rcases r with r | ⟨n, r⟩
  · cases r
    case iv => exact s.release_busTrace
    all_goals rfl
  · cases r
    case ctl => exact s.configure_busTrace n d
    all_goals exact s.setCh_busTrace n _

/-- R51: only a STEP drives the bus master port. -/
theorem OpEnd.busTrace_eq {s t : State} {i : Instr} (h : OpEnd s i t) (step : i ≠ .step) : t.busTrace = s.busTrace := by
  cases h with
  | read r => exact s.readEffect_busTrace r
  | write r d => exact s.writeEffect_busTrace d r
  | fire =>
    refine State.busTrace_append rfl fun o ho => ?_
    obtain ⟨n, -, rfl⟩ := List.mem_map.1 ho
    rfl
  | bind => exact State.busTrace_append (State.emit_out _ _) (by simp [Output.isBus])
  | step => exact absurd rfl step
  | reset =>
    refine State.busTrace_append (l := if s.irq then [s.lineEvent false] else []) rfl ?_
    split <;> simp [State.lineEvent, Output.isBus]
  | _ => rfl

/-- Outputs appended without a new bus access hold none. -/
theorem State.isBus_of_busTrace_eq {s t : State} {l : List Output} (out : t.out = s.out ++ l)
    (h : t.busTrace = s.busTrace) {o : Output} (ho : o ∈ l) : o.isBus = false := by
  rw [State.busTrace, out, List.filter_append] at h
  have none_of_l : l.filter Output.isBus = [] := List.append_right_eq_self.1 h
  simpa using List.filter_eq_nil_iff.1 none_of_l o ho

/-- Settles O42: the memory is kept, and of the outputs appended none is a bus access. -/
theorem onlyStepTouchesBus : Obligations.OnlyStepTouchesBus := by
  intro i s t step h
  have ends := (exec_end h).2
  obtain ⟨l, out⟩ := (State.SurroundingsKept.opEnd ends).out
  refine ⟨fun a => by rw [State.readByte, ends.mem_eq step]; rfl, l, out.symm, fun o ho => ?_⟩
  have other := State.isBus_of_busTrace_eq out.symm (ends.busTrace_eq step) ho
  constructor
  · rintro a rfl; cases other
  · rintro a v rfl; cases other

/-! ### FIRE and a transfer (R62) -/

/-- The channels a trigger is bound to, in index order (R137, R138). -/
def State.boundTo (s : State) (t : Trigger) : List ChIdx :=
  [ChIdx.c0, .c1, .c2].filter fun n => decide ((s.ch n).bound = some t)

theorem State.boundTo_congr {s t : State} (h : ∀ n, (t.ch n).bound = (s.ch n).bound) (g : Trigger) :
    t.boundTo g = s.boundTo g := by
  simp only [State.boundTo, h]

/-- The state with another queue and another trace. -/
def State.withQueue (s : State) (q : List ChIdx) (o : List Output) : State := { s with pending := q, out := o }

@[simp] theorem State.ch_withQueue (s : State) (q : List ChIdx) (o : List Output) (n : ChIdx) :
    (s.withQueue q o).ch n = s.ch n := by cases n <;> rfl

/-- No STEP changes a binding (R141). -/
theorem StepEnd.bound_eq {s t : State} {n : ChIdx} {rest : List ChIdx} (h : StepEnd s n rest t) (m : ChIdx) :
    (t.ch m).bound = (s.ch m).bound := by
  cases h with
  | moved =>
    refine (congrArg Channel.bound (State.ch_withQueue ((s.afterBus n).advance n) rest _ m)).trans ?_
    rw [State.advance_ch, State.ch_afterBus, State.ch_afterBus]
    split
    · next hm => subst hm; split <;> rfl
    · rfl
  | _ => cases m <;> rfl

theorem State.setCh_withQueue (s : State) (q : List ChIdx) (o : List Output) (n : ChIdx) (c : Channel) :
    (s.withQueue q o).setCh n c = (s.setCh n c).withQueue q o := by cases n <;> rfl

@[simp] theorem State.inWindow_withQueue (s : State) (q : List ChIdx) (o : List Output) (a : Addr) :
    (s.withQueue q o).inWindow a = s.inWindow a := rfl

@[simp] theorem State.withQueue_draws (s : State) (q : List ChIdx) (o : List Output) :
    (s.withQueue q o).draws = s.draws := rfl

theorem State.acquire_withQueue (s : State) (n : ChIdx) (q : List ChIdx) (o : List Output) :
    ∃ o', (s.withQueue q o).acquire n = (s.acquire n).withQueue q o' := by
  rw [State.acquire_eq, State.acquire_eq]
  exact ⟨_, rfl⟩

/-- The counters of a transfer look at neither the queue nor the trace (R104, R106, R107). -/
theorem State.advance_withQueue (s : State) (n : ChIdx) (q : List ChIdx) (o : List Output) :
    ∃ o', (s.withQueue q o).advance n = (s.advance n).withQueue q o' := by
  simp only [State.advance, State.endBlock, State.ch_withQueue, State.setCh_withQueue]
  split
  · split
    · exact State.acquire_withQueue _ n q o
    · exact ⟨o, rfl⟩
  · exact ⟨o, rfl⟩

/-- The bus part of a transfer looks at neither. -/
theorem State.afterBus_withQueue (s : State) (n : ChIdx) (q : List ChIdx) (o : List Output) :
    ∃ o', (s.withQueue q o).afterBus n = (s.afterBus n).withQueue q o' := by
  rw [State.afterBus, State.ch_withQueue]
  exact ⟨_, rfl⟩

/-- A STEP that raises no fault mark looks at the head of the queue alone, and at no earlier output. -/
theorem StepEnd.withQueue {s t : State} {n : ChIdx} {rest : List ChIdx} (h : StepEnd s n rest t) (hf : t.fault = none)
    (q r : List ChIdx) (o : List Output) : ∃ o', StepEnd (s.withQueue q o) n r (t.withQueue r o') := by
  cases h with
  | disabled en => exact ⟨o, .disabled (by simpa using en)⟩
  | zeroSize => cases hf
  | selfAccess => cases hf
  | readFailed => cases hf
  | writeFailed => cases hf
  | moved en size window read write =>
    obtain ⟨o₁, bus⟩ := s.afterBus_withQueue n q o
    obtain ⟨o₂, counters⟩ := (s.afterBus n).advance_withQueue n q o₁
    have ends : StepEnd (s.withQueue q o) n r { ((s.withQueue q o).afterBus n).advance n with pending := r } :=
      .moved (by simpa using en) (by simpa using size) (by simpa using window) read write
    rw [bus, counters] at ends
    exact ⟨o₂, ends⟩

/-- FIRE appends to the queue and to the trace (R137, R138). -/
theorem execFire_withQueue {s : State} (h : s.fault = none) (p : Provider) (k : Byte) :
    execFire p k s = .next (s.withQueue (s.pending ++ s.boundTo ⟨p, k⟩)
      (s.out ++ (s.boundTo ⟨p, k⟩).map fun n => .schedule 0#32 n)) :=
  execFire_eq h p k

/-- Settles O47: the FIRE appends the same entries on either side of the transfer, since a transfer keeps the bindings,
and the transfer does the same with them at the end of its queue. -/
theorem fireCommutesWithTransfer : Obligations.FireCommutesWithTransfer := by
  intro s t u p k hstep hf hfire
  obtain ⟨hs, n, rest, hq, ends⟩ := execStep_cases hstep
  have queue : t.pending = rest := by
    rcases ends.queue hs with ⟨-, taken⟩ | ⟨marked, -⟩
    · exact taken
    · rw [hf] at marked; cases marked
  have after := (execFire_withQueue hf p k).symm.trans hfire
  rw [queue, State.boundTo_congr ends.bound_eq] at after
  cases after
  obtain ⟨o, fired⟩ := ends.withQueue hf (s.pending ++ s.boundTo ⟨p, k⟩) (rest ++ s.boundTo ⟨p, k⟩)
    (s.out ++ (s.boundTo ⟨p, k⟩).map fun n => .schedule 0#32 n)
  have head : s.pending ++ s.boundTo ⟨p, k⟩ = n :: (rest ++ s.boundTo ⟨p, k⟩) := by rw [hq]; rfl
  exact ⟨_, _, execFire_withQueue hs p k, fired.execStep_eq hs head, rfl⟩

end Sys2Proof.Machine
end

section
/-! The decoder and the encoder against each other (R63 to R71): decode after encode, encode after decode, and the class of
every operation word. -/

namespace Sys2Proof.Machine

/-! ### An operation read back from its own word -/

/-- Register reads and writes have no operand that can be out of range. -/
theorem wellFormed_rd (r : Reg) (w : Width) : (Instr.rd r w).wellFormed = true := by
  rcases r with r | ⟨n, r⟩
  · cases r <;> rfl
  · cases n <;> cases r <;> rfl

theorem wellFormed_wr (r : Reg) (w : Width) (d : Word16) : (Instr.wr r w d).wellFormed = true := by
  rcases r with r | ⟨n, r⟩
  · cases r <;> rfl
  · cases n <;> cases r <;> rfl

/-- R68: the trigger ids a BIND may carry. -/
theorem wellFormed_bind {t : BitVec 7} {p : Provider} {k : Byte} : (Instr.bind t p k).wellFormed = true ↔ t.toNat ≤ 31 :=
  decide_eq_true_iff

/-- Settles O1: a register operation's offset decodes to its register, BIND's id passes the check of R68, and FIRE, STEP
and RESET have X = 0. -/
theorem decodeOfEncode : Obligations.DecodeOfEncode := by
  intro i wf
  cases instr_shape i with
  | rd r w => rw [encode_rd]; exact decode_access_some (regAt_offsetOf r) false w _ _ _
  | wr r w d => rw [encode_wr]; exact decode_access_some (regAt_offsetOf r) true w d _ _
  | fire p k => exact decode_fire 0#7 .word 0#16 p k
  | bind t p k => exact (decode_bind t .word 0#16 p k).trans (if_pos (wellFormed_bind.1 wf))
  | step => exact decode_step 0#7 .word 0#16 ⟨0⟩ 0#8
  | reset => exact decode_reset 0#7 .word 0#16 ⟨0⟩ 0#8

/-! ### The word of a decoded operation -/

/-- An access that decodes to an operation is that operation's own word (R66). -/
theorem ownWord_of_decode_access {wr : Bool} {x : BitVec 7} {w : Width} {d : Word16} {p : Provider} {k : Byte} {i : Instr}
    (h : decode ⟨accessWord wr x, w, d, p, k⟩ = .instr i) :
    i.wellFormed = true ∧ (encode i).word = accessWord wr x := by
  cases hr : regAt x with
  | none => rw [decode_access_none hr] at h; cases h
  | some r =>
    rw [decode_access_some hr] at h
    cases h
    obtain rfl := offsetOf_regAt hr
    cases wr with
    | true => exact ⟨wellFormed_wr r w d, congrArg Op.word (encode_wr r w d)⟩
    | false => exact ⟨wellFormed_rd r w, congrArg Op.word (encode_rd r w)⟩

/-- A KIND that names one operation under a condition on X and none otherwise (R67 to R70): what names an operation meets
the condition. -/
theorem instr_of_ite {c : Prop} [Decidable c] {i j : Instr} {other : Decoded}
    (h : (if c then .instr j else other) = .instr i) (ne : other ≠ .instr i) : c ∧ j = i := by
  split at h
  · exact ⟨‹c›, Decoded.instr.inj h⟩
  · exact absurd h ne

/-- Settles O2, by the KIND of the word. -/
theorem decodedWordEncodesBack : Obligations.DecodedWordEncodesBack := by
  rintro ⟨word, w, d, p, k⟩ i h
  rw [← kindOf_append_xOf word] at h ⊢
  generalize kindOf word = kind, xOf word = x at h ⊢
  rcases kind_cases kind with rfl | rfl | rfl | rfl | rfl | rfl | reserved
  · exact ownWord_of_decode_access (wr := false) h
  · exact ownWord_of_decode_access (wr := true) h
  · obtain ⟨rfl, rfl⟩ := instr_of_ite ((decode_fire x w d p k).symm.trans h) nofun
    exact ⟨rfl, rfl⟩
  · obtain ⟨range, rfl⟩ := instr_of_ite ((decode_bind x w d p k).symm.trans h) nofun
    exact ⟨wellFormed_bind.2 range, rfl⟩
  · obtain ⟨rfl, rfl⟩ := instr_of_ite ((decode_step x w d p k).symm.trans h) nofun
    exact ⟨rfl, rfl⟩
  · obtain ⟨rfl, rfl⟩ := instr_of_ite ((decode_reset x w d p k).symm.trans h) nofun
    exact ⟨rfl, rfl⟩
  · rw [decode_reservedKind kind reserved] at h; cases h

/-- The last class of R71: a word that decodes to an operation names the one it is the word of. -/
theorem namesOwnOperation {o : Op} {i : Instr} (h : decode o = .instr i) :
    ∃ j, decode o = .instr j ∧ (encode j).word = o.word :=
  ⟨i, h, (decodedWordEncodesBack o i h).2⟩

/-! ### The classes of R71 -/

/-- R71's list of the offsets that are not decoded. -/
theorem regAt_eq_none_iff (x : BitVec 7) :
    regAt x = none ↔ x.toNat % 2 = 1 ∨ x.toNat = 0x0A ∨ x.toNat = 0x0C ∨
      ((x.toNat % 16 = 0xC ∨ x.toNat % 16 = 0xE) ∧ x.toNat / 16 % 4 ≠ 0) ∨ x.toNat ≥ 0x40 := by
  revert x; decide

/-- R71 for KIND RD and WR: CONFIG_ADDR at an offset that is not decoded, an operation at any other. -/
theorem decode_access_class (wr : Bool) (x : BitVec 7) (w : Width) (d : Word16) (p : Provider) (k : Byte) :
    if regAt x = none then decode ⟨accessWord wr x, w, d, p, k⟩ = .configAddr x
    else ∃ i, decode ⟨accessWord wr x, w, d, p, k⟩ = .instr i ∧ (encode i).word = accessWord wr x := by
  split
  next undecoded => exact decode_access_none undecoded wr w d p k
  next decoded =>
    obtain ⟨r, hr⟩ := Option.ne_none_iff_exists'.1 decoded
    exact namesOwnOperation (decode_access_some hr wr w d p k)

/-- R71 for KIND FIRE, STEP and RESET: reserved unless X = 0. -/
theorem decode_unusedX_class {o : Op} {x : BitVec 7} {i : Instr}
    (h : decode o = if x = 0#7 then .instr i else .reserved o.word) :
    if x.toNat ≠ 0 then decode o = .reserved o.word else ∃ j, decode o = .instr j ∧ (encode j).word = o.word := by
  have toNat_ne_zero : x.toNat ≠ 0 ↔ ¬ x = 0#7 := not_congr (BitVec.toNat_inj (y := 0#7))
  simp only [toNat_ne_zero]
  split
  next used => exact h.trans (if_neg used)
  next unused => exact namesOwnOperation (h.trans (if_pos (not_not.1 unused)))

/-- R71 for KIND BIND: BIND_RANGE for an id above 31. -/
theorem decode_bind_class (x : BitVec 7) (w : Width) (d : Word16) (p : Provider) (k : Byte) :
    if x.toNat ≥ 32 then decode ⟨0b011#3 ++ x, w, d, p, k⟩ = .bindRange x
    else ∃ i, decode ⟨0b011#3 ++ x, w, d, p, k⟩ = .instr i ∧ (encode i).word = 0b011#3 ++ x := by
  have h := decode_bind x w d p k
  split
  next above => exact h.trans (if_neg (by omega))
  next legal => exact namesOwnOperation (h.trans (if_pos (by omega)))

/-- Settles O4: the class of a word by its KIND. -/
theorem decoderClassifiesEveryWord : Obligations.DecoderClassifiesEveryWord := by
  rintro ⟨word, w, d, p, k⟩
  rw [← kindOf_append_xOf word]
  generalize kindOf word = kind, xOf word = x
  have kind_eq : (kind ++ x).toNat / 128 = kind.toNat := by rw [opWord_toNat]; omega
  have x_eq : (kind ++ x).toNat % 128 = x.toNat := by rw [opWord_toNat]; omega
  have x_back : BitVec.ofNat 7 x.toNat = x := by simp
  simp only [kind_eq, x_eq, x_back, ← regAt_eq_none_iff]
  rcases kind_cases kind with rfl | rfl | rfl | rfl | rfl | rfl | rfl | rfl <;>
    simp only [BitVec.reduceToNat, Nat.reduceEqDiff, reduceCtorEq, or_true, or_false, true_and, false_and, if_true,
      if_false]
  · exact decode_access_class false x w d p k
  · exact decode_access_class true x w d p k
  · exact decode_unusedX_class (decode_fire x w d p k)
  · exact decode_bind_class x w d p k
  · exact decode_unusedX_class (decode_step x w d p k)
  · exact decode_unusedX_class (decode_reset x w d p k)
  · exact decode_reservedKind _ (.inl rfl) x w d p k
  · exact decode_reservedKind _ (.inr rfl) x w d p k

end Sys2Proof.Machine
end

section
/-! The read of a control register (R77, R88). -/

namespace Sys2Proof.Machine

/-- Settles O21: the read returns `Channel.readCtl`, whose bits are `Channel.readCtl_getLsbD`. -/
theorem controlReadMergesLiveFlag : Obligations.ControlReadMergesLiveFlag :=
  ⟨fun _ => ⟨rfl, rfl, rfl⟩, fun s n hf => ⟨(s.ch n).readCtl, exec_rd_word hf _, (s.ch n).readCtl_getLsbD⟩⟩

end Sys2Proof.Machine
end

section
/-! The channel registers (R81 to R98): reads and writes of bases and counts, a DMAnCTL write field by field, its arbiter
and its scheduling part, and which operations change a cursor or a count (R101, R103). -/

namespace Sys2Proof.Machine

/-! ### Bases and counts -/

/-- Settles O22: each read returns one part of the base (`lowOf_eq`, `highOf_eq`). -/
theorem addressReadsReturnBase : Obligations.AddressReadsReturnBase := by
  refine ⟨fun _ => by and_intros <;> rfl, fun s n hf => ?_⟩
  rw [← lowOf_eq, ← highOf_eq, ← lowOf_eq, ← highOf_eq]
  exact ⟨exec_rd_word hf _, exec_rd_word hf _, exec_rd_word hf _, exec_rd_word hf _⟩

/-- Settles O23: the read effect of the size register is the live count. -/
theorem sizeReadReturnsLiveCount : Obligations.SizeReadReturnsLiveCount :=
  ⟨fun _ => ⟨rfl, rfl, rfl⟩, fun _ _ hf => exec_rd_word hf _⟩

/-- Settles O24: the new base is `withLow` or `withHigh` of the old one (R75). -/
theorem sourceWritesReseedCursor : Obligations.SourceWritesReseedCursor :=
  ⟨fun _ _ => ⟨rfl, rfl, rfl, rfl, rfl, rfl⟩, fun s n d hf =>
    ⟨⟨withLow (s.ch n).sa d, withLow_toNat _ _, exec_wr_word hf _ d⟩,
      ⟨withHigh (s.ch n).sa d, withHigh_toNat _ _, exec_wr_word hf _ d⟩⟩⟩

/-- Settles O25: `withLow` and `withHigh` again, of the destination base. -/
theorem destinationWritesReseedCursor : Obligations.DestinationWritesReseedCursor :=
  ⟨fun _ _ => ⟨rfl, rfl, rfl, rfl, rfl, rfl⟩, fun s n d hf =>
    ⟨⟨withLow (s.ch n).da d, withLow_toNat _ _, exec_wr_word hf _ d⟩,
      ⟨withHigh (s.ch n).da d, withHigh_toNat _ _, exec_wr_word hf _ d⟩⟩⟩

/-- Settles O26: after a write of 0 the channel is still enabled, its count is 0 and the queue is as it was, so the STEP
ends by `StepEnd.zeroSize`. -/
theorem sizeWriteSetsCountAndReload : Obligations.SizeWriteSetsCountAndReload := by
  refine ⟨fun _ _ => ⟨rfl, rfl, rfl⟩, fun s n hf => ⟨fun d => exec_wr_word hf _ d, fun rest queue en => ?_⟩⟩
  refine ⟨s.setCh n ((s.ch n).setSize 0#16), exec_wr_word hf _ _, ?_⟩
  have en_kept : ((s.setCh n ((s.ch n).setSize 0#16)).ch n).en = true := by rw [State.ch_setCh_self]; exact en
  have size_zero : ((s.setCh n ((s.ch n).setSize 0#16)).ch n).size = 0#16 := by rw [State.ch_setCh_self]; rfl
  exact (StepEnd.zeroSize en_kept size_zero).execStep_eq (by rw [State.setCh_fault, hf]) (by rw [State.setCh_pending, queue])

/-! ### A DMAnCTL write: word and fields (R82) -/

/-- The step a step code given as a number selects (R73). -/
def stepOfNumber : Nat → Step
  | 2 => .minusOne
  | 3 => .plusOne
  | _ => .zero

theorem stepOfCode_eq (code : BitVec 2) : stepOfCode code = stepOfNumber code.toNat := by
  revert code; decide

/-- The step code in two bits of a word. -/
theorem stepOfCode_extractLsb' (v : Word16) (i : Nat) :
    stepOfCode (v.extractLsb' i 2) = stepOfNumber (v.toNat / 2 ^ i % 4) := by
  rw [stepOfCode_eq, extractLsb'_eq_ofNat, BitVec.toNat_ofNat, Nat.mod_mod]
  rfl

/-- The decoded fields in natural numbers (R24, R72, R73). -/
theorem Channel.decodeCtl_eq (c : Channel) (v : Word16) :
    c.decodeCtl v = { c with
      cw := v
      mode := BitVec.ofNat 3 (v.toNat / 0x1000 % 8)
      dstStep := stepOfNumber (v.toNat / 0x400 % 4)
      srcStep := stepOfNumber (v.toNat / 0x100 % 4)
      dstByte := v.getLsbD 7
      srcByte := v.getLsbD 6
      level := v.getLsbD 5
      en := v.getLsbD 4
      ifg := v.getLsbD 3
      ie := v.getLsbD 2 } := by
  rw [Channel.decodeCtl, extractLsb'_eq_ofNat, stepOfCode_extractLsb', stepOfCode_extractLsb']
  rfl

/-- What a DMAnCTL write leaves alone (R100). -/
theorem State.configure_frame (s : State) (n : ChIdx) (v : Word16) :
    s.configure n v = { s with
      ch0 := (s.configure n v).ch0, ch1 := (s.configure n v).ch1, ch2 := (s.configure n v).ch2
      pv := (s.configure n v).pv, irq := (s.configure n v).irq
      pending := (s.configure n v).pending, out := (s.configure n v).out } := by
  rw [State.configure_eq, State.configureArbiter_frame]

/-- Settles O28: the written channel is decoded, the other channels and the rest are kept. -/
theorem controlWriteStoresAndDecodes : Obligations.ControlWriteStoresAndDecodes := by
  refine ⟨fun _ _ => ⟨rfl, rfl, rfl⟩, fun s n v hf => ⟨s.configure n v, exec_wr_word hf _ v, ?_, fun m other => ?_, ?_⟩⟩
  · rw [State.configure_ch, if_pos rfl]
    exact (s.ch n).decodeCtl_eq v
  · rw [State.configure_ch, if_neg other]
  · exact s.configure_frame n v

/-! ### A DMAnCTL write: arbiter (R83, R84) and scheduling (R85, R86) -/

theorem State.lowestWaiting_congr {s t : State} (h : ∀ n, t.ch n = s.ch n) : t.lowestWaiting = s.lowestWaiting := by
  simp only [State.lowestWaiting, h]

theorem State.release_lowestWaiting (s : State) : s.release.lowestWaiting = s.waitingAfterRelease := by
  simp only [State.lowestWaiting, State.waitingAfterRelease, State.release_ch, Bool.and_comm]

/-- RELEASE hands the vector to the lowest-index channel that waits (R114). -/
theorem State.release_pv (s : State) : s.release.pv = vectorValue s.release.lowestWaiting := by
  rw [State.release_lowestWaiting, State.release_eq]

theorem State.release_irq (s : State) : s.release.irq = s.release.lowestWaiting.isSome := by
  rw [State.release_lowestWaiting, State.release_eq]

/-- RELEASE deasserts the line and asserts it again for a next owner (R114). -/
theorem State.release_out (s : State) :
    s.release.out = s.out ++ s.lineEvent false :: (if s.release.pv = 0x0000#16 then [] else [s.lineEvent true]) := by
  rw [State.release_pv, State.release_lowestWaiting, State.release_eq]
  cases s.waitingAfterRelease <;> simp [vectorValue_eq_zero]

theorem State.acquire_pv {s : State} (legal : legalVector s.pv = true) (n : ChIdx) :
    (s.acquire n).pv = vectorAfterAcquire s.pv n := by
  rw [State.acquire_eq]
  exact vectorAfterAcquire_eq legal n

theorem State.acquire_irq (s : State) (n : ChIdx) : (s.acquire n).irq = (s.irq || (s.pv == 0x0000#16)) := by
  rw [State.acquire_eq]

theorem State.acquire_out (s : State) (n : ChIdx) :
    (s.acquire n).out = s.out ++ (if s.pv = 0x0000#16 then [s.lineEvent true] else []) := by
  rw [State.acquire_eq]

/-- The line events depend on the parameters alone. -/
theorem State.setCh_lineEvent (s : State) (n : ChIdx) (c : Channel) (b : Bool) :
    (s.setCh n c).lineEvent b = s.lineEvent b := by
  rw [State.lineEvent, State.setCh_platform]; rfl

theorem State.configure_pv (s : State) (n : ChIdx) (v : Word16) :
    (s.configure n v).pv = (s.configureArbiter n v).pv := by
  rw [State.configure_eq]

theorem State.configure_irq (s : State) (n : ChIdx) (v : Word16) :
    (s.configure n v).irq = (s.configureArbiter n v).irq := by
  rw [State.configure_eq]

theorem State.configure_lowestWaiting (s : State) (n : ChIdx) (v : Word16) :
    (s.configure n v).lowestWaiting = (s.configureArbiter n v).lowestWaiting :=
  State.lowestWaiting_congr fun m => by rw [State.configure_ch, State.configureArbiter_ch]

/-- Settles O29, by the three cases of the arbiter part. -/
theorem controlWriteDrivesArbiter : Obligations.ControlWriteDrivesArbiter := by
  intro s n v hf legal
  refine ⟨s.configure n v, exec_wr_word hf _ v, ?_⟩
  rw [State.configure_pv, State.configure_irq, State.configure_lowestWaiting]
  obtain ⟨flag, ie, owner, h⟩ | ⟨flag, enable, h⟩ | ⟨keeps, asks, h⟩ := State.configureArbiter_cases s n v
  · rw [if_pos ⟨flag, ie, owner⟩, h]
    exact ⟨State.release_pv _, State.release_irq _⟩
  · have legal_kept : legalVector (s.setCh n ((s.ch n).decodeCtl v)).pv = true := by rw [State.setCh_pv, legal]
    rw [if_neg (by simp [flag]), if_pos ⟨flag, enable⟩, h, State.acquire_pv legal_kept, State.acquire_irq, State.setCh_pv,
      State.setCh_irq]
    exact ⟨rfl, rfl⟩
  · rw [if_neg keeps, if_neg asks, h]
    exact ⟨State.setCh_pv .., State.setCh_irq ..⟩

/-- The outputs of the arbiter part: line events only (R154). -/
theorem State.configureArbiter_out (s : State) (n : ChIdx) (v : Word16) :
    (s.configureArbiter n v).out = s.out ++
      (if v.getLsbD 3 = false ∧ (s.ch n).ie = true ∧ s.pv = vectorValue (some n) then
        s.lineEvent false :: (if (s.configureArbiter n v).pv = 0x0000#16 then [] else [s.lineEvent true])
      else if v.getLsbD 3 = true ∧ v.getLsbD 2 = true ∧ s.pv = 0x0000#16 then [s.lineEvent true] else []) := by
  obtain ⟨flag, ie, owner, h⟩ | ⟨flag, enable, h⟩ | ⟨keeps, asks, h⟩ := State.configureArbiter_cases s n v
  · rw [if_pos ⟨flag, ie, owner⟩, h, State.release_out, State.setCh_out, State.setCh_lineEvent, State.setCh_lineEvent]
  · rw [if_neg (by simp [flag]), h, State.acquire_out, State.setCh_out, State.setCh_pv, State.setCh_lineEvent]
    simp only [flag, enable, true_and]
  · rw [if_neg keeps, if_neg fun ⟨flag, enable, _⟩ => asks ⟨flag, enable⟩, h, State.setCh_out, List.append_nil]

/-- Settles O30: the outputs of the arbiter part, then the query and the scheduled steps of `State.configure_eq`. -/
theorem controlWriteSchedulesSteps : Obligations.ControlWriteSchedulesSteps := by
  intro s n v hf _
  refine ⟨s.configure n v, exec_wr_word hf _ v, by rw [State.configure_eq], ?_⟩
  rw [State.configure_pv, ← State.configureArbiter_out, State.configure_eq]

/-! ### Who changes a cursor or a count (R101, R103) -/

namespace ChannelEnd

/-- R103: who changes the source cursor. -/
theorem cs_changed {s : State} {n : ChIdx} {i : Instr} {c : Channel} (h : ChannelEnd s n i c) (step : i ≠ .step)
    (reset : i ≠ .reset) (changed : c.cs ≠ (s.ch n).cs) :
    ∃ d, i = .wr (.channel n .sal) .word d ∨ i = .wr (.channel n .sah) .word d := by
  cases h with
  | sourceLow v => exact ⟨v, .inl rfl⟩
  | sourceHigh v => exact ⟨v, .inr rfl⟩
  | moved => exact absurd rfl step
  | reloaded => exact absurd rfl step
  | reset => exact absurd rfl reset
  | _ => exact absurd rfl changed

/-- R103: who changes the destination cursor. -/
theorem cd_changed {s : State} {n : ChIdx} {i : Instr} {c : Channel} (h : ChannelEnd s n i c) (step : i ≠ .step)
    (reset : i ≠ .reset) (changed : c.cd ≠ (s.ch n).cd) :
    ∃ d, i = .wr (.channel n .dal) .word d ∨ i = .wr (.channel n .dah) .word d := by
  cases h with
  | destinationLow v => exact ⟨v, .inl rfl⟩
  | destinationHigh v => exact ⟨v, .inr rfl⟩
  | moved => exact absurd rfl step
  | reloaded => exact absurd rfl step
  | reset => exact absurd rfl reset
  | _ => exact absurd rfl changed

/-- R103: who changes the count or its reload value. -/
theorem count_changed {s : State} {n : ChIdx} {i : Instr} {c : Channel} (h : ChannelEnd s n i c) (step : i ≠ .step)
    (reset : i ≠ .reset) (changed : c.size ≠ (s.ch n).size ∨ c.total ≠ (s.ch n).total) :
    ∃ d, i = .wr (.channel n .sz) .word d := by
  cases h with
  | count v => exact ⟨v, rfl⟩
  | moved => exact absurd rfl step
  | reloaded => exact absurd rfl step
  | reset => exact absurd rfl reset
  | _ => exact changed.elim (absurd rfl) (absurd rfl)

end ChannelEnd

/-- Settles O43: cursors and count by the ways an operation can leave a channel. -/
theorem cursorMutators : Obligations.CursorMutators := by
  intro i s t n step reset h
  have ends := ChannelEnd.opEnd (exec_end h).2 n
  exact ⟨ends.cs_changed step reset, ends.cd_changed step reset, ends.count_changed step reset⟩

end Sys2Proof.Machine
end

section
/-! The transfer step (R104 to R112): what a completed transfer leaves, inside a block and at its end, and the other ways a
STEP ends. -/

namespace Sys2Proof.Machine

/-! ### A STEP without a bus access (R108 to R110), and no operation at all (R166) -/

/-- R108: STEP is not enabled on an empty queue. -/
theorem execStep_empty {s : State} (hf : s.fault = none) (hp : s.pending = []) : execStep s = .fault .stepNotEnabled := by
  rw [execStep, State.accept_none hf, hp]

/-- Settles O12: the empty queue and the empty input list. -/
theorem nothingToDoStops : Obligations.NothingToDoStops :=
  ⟨fun _ => execStep_empty, fun _ => step_idle⟩

/-- Settles O33: of the six endings of a STEP, the one for a disabled channel (R109). -/
theorem disabledStepOnlyDequeues : Obligations.DisabledStepOnlyDequeues :=
  fun _ _ _ hf hp en => (StepEnd.disabled en).execStep_eq hf hp

/-- Settles O34: the ending for a count of 0 (R110). -/
theorem zeroSizeStepFaults : Obligations.ZeroSizeStepFaults :=
  fun _ _ _ hf hp en size => (StepEnd.zeroSize en size).execStep_eq hf hp

/-! ### A transfer the bus fails (R112) -/

/-- A transfer with both cursors outside the window of R53 passes the check of R111. -/
theorem State.window_passed {s : State} {n : ChIdx} (source : s.ownWindow (s.ch n).cs = false)
    (destination : s.ownWindow (s.ch n).cd = false) :
    ¬ (s.inWindow (s.ch n).cs = true ∨ s.inWindow (s.ch n).cd = true) := by
  simp [State.inWindow_eq, source, destination]

/-- Two outputs driven one after the other. -/
theorem State.emit_emit (s : State) (o p : Output) : (s.emit o).emit p = { s with out := s.out ++ [o, p] } := by
  simp [State.emit]

/-- Settles O36: the endings for a failed read and for a failed write (R112). -/
theorem busFailureFaults : Obligations.BusFailureFaults := by
  intro s n rest hf hp en size source destination
  have size_ne : (s.ch n).size ≠ 0#16 := by bv_omega
  have window := State.window_passed source destination
  refine ⟨fun read => (StepEnd.readFailed en size_ne window read).execStep_eq hf hp, fun read write => ?_⟩
  have ends := (StepEnd.writeFailed en size_ne window read write).execStep_eq hf hp
  rw [State.emit_emit] at ends
  exact ends

/-! ### A completed transfer (R104 to R107) -/

/-- The state after a STEP that completed a transfer of channel n. -/
def State.afterTransfer (s : State) (n : ChIdx) (rest : List ChIdx) : State :=
  { (s.afterBus n).advance n with pending := rest }

/-- R104 part 3, R51: the byte at the source cursor stands at the destination cursor, and no other byte changed. -/
theorem State.readByte_afterTransfer {s : State} (wf : Mem.wf s.mem = true) (n : ChIdx) (rest : List ChIdx) (a : Addr) :
    (s.afterTransfer n rest).readByte a = if a = (s.ch n).cd then s.readByte (s.ch n).cs else s.readByte a := by
  have mem : (s.afterTransfer n rest).mem = (s.afterBus n).mem := by
    rw [State.afterTransfer, State.advance_frame]
  rw [State.readByte, mem]
  exact State.readByte_storeByte wf _ _ _

/-- The channels after a completed transfer: only the one that transferred changed. -/
theorem State.ch_afterTransfer (s : State) (n m : ChIdx) (rest : List ChIdx) :
    (s.afterTransfer n rest).ch m = if m = n then
      (if (s.ch n).size - 1#16 = 0#16 then (s.ch n).countDown.reload else (s.ch n).countDown) else s.ch m := by
  have queue : (s.afterTransfer n rest).ch m = ((s.afterBus n).advance n).ch m := by cases m <;> rfl
  rw [queue, State.advance_ch]
  simp only [State.ch_afterBus]

/-- The two bus events of a completed transfer. -/
theorem State.afterBus_out (s : State) (n : ChIdx) :
    (s.afterBus n).out = s.out ++ [.busRead (s.ch n).cs, .busWrite (s.ch n).cd (s.readByte (s.ch n).cs)] := by
  rw [State.afterBus, State.emit_emit]
  rfl

/-- A channel write leaves everything but the channels alone. -/
theorem State.setCh_frame (s : State) (n : ChIdx) (c : Channel) :
    s.setCh n c = { s with ch0 := (s.setCh n c).ch0, ch1 := (s.setCh n c).ch1, ch2 := (s.setCh n c).ch2 } := by
  cases n <;> rfl

/-- R106: inside a block the counters change their channel alone. -/
theorem State.advance_more {s : State} {n : ChIdx} (more : (s.ch n).size - 1#16 ≠ 0#16) :
    s.advance n = s.setCh n (s.ch n).countDown := by
  obtain ⟨-, h⟩ | ⟨last, -, -⟩ | ⟨last, -, -⟩ := State.advance_cases s n
  · exact h
  · exact absurd last more
  · exact absurd last more

/-- R107, R113: at the end of a block the channel is reloaded, and asks for the vector when its `ie` is 1. -/
theorem State.advance_last {s : State} {n : ChIdx} (legal : legalVector s.pv = true)
    (last : (s.ch n).size - 1#16 = 0#16) :
    s.advance n = { s.setCh n (s.ch n).countDown.reload with
      pv := if (s.ch n).ie then vectorAfterAcquire s.pv n else s.pv
      irq := s.irq || ((s.ch n).ie && (s.pv == 0x0000#16))
      out := s.out ++ (if (s.ch n).ie = true ∧ s.pv = 0x0000#16 then [s.lineEvent true] else []) } := by
  obtain ⟨more, -⟩ | ⟨-, ie, h⟩ | ⟨-, ie, h⟩ := State.advance_cases s n
  · exact absurd last more
  · rw [h, State.acquire_eq, State.setCh_pv, vectorAfterAcquire_eq legal, State.setCh_lineEvent, State.setCh_irq,
      State.setCh_out]
    simp [ie]
  · rw [h]
    rw [State.setCh_frame]
    simp [ie]

/-- R106 in natural numbers: both cursors step modulo 2^20, and a count above 0 goes down by one. -/
theorem Channel.countDown_eq {c : Channel} (size : 1 ≤ c.size.toNat) :
    c.countDown = { c with
      cs := BitVec.ofNat 20 (movedCursor c.cs c.srcStep)
      cd := BitVec.ofNat 20 (movedCursor c.cd c.dstStep)
      size := BitVec.ofNat 16 (c.size.toNat - 1) } := by
  have count : c.size - 1#16 = BitVec.ofNat 16 (c.size.toNat - 1) := by bv_omega
  rw [Channel.countDown, Step.advance_eq, Step.advance_eq, count]

/-- R107 of an enabled channel, whose mode decides whether it stays so. -/
theorem Channel.reload_countDown_eq {c : Channel} (en : c.en = true) :
    c.countDown.reload = { c with
      cs := c.sa, cd := c.da, size := c.total, en := (transferMode c.mode).isRepeated, ifg := true } := by
  simp [Channel.reload, Channel.countDown, Channel.repeated, transferMode_isRepeated, en]

/-- Settles O31: the transfer completes with a count that is not 0, so the counters change their channel alone. -/
theorem transferMovesOneByte : Obligations.TransferMovesOneByte := by
  intro s n rest hf hp wf en size source destination read write
  have size_ne : (s.ch n).size ≠ 0#16 := by bv_omega
  have more : (s.ch n).size - 1#16 ≠ 0#16 := by bv_omega
  have ends : StepEnd s n rest (s.afterTransfer n rest) :=
    .moved en size_ne (State.window_passed source destination) read write
  refine ⟨_, ends.execStep_eq hf hp, State.readByte_afterTransfer wf n rest, ?_, fun m other => ?_, ?_⟩
  · rw [State.ch_afterTransfer, if_pos rfl, if_neg more, Channel.countDown_eq (by omega)]
  · rw [State.ch_afterTransfer, if_neg other]
  · rw [State.afterTransfer, State.advance_more (by rwa [State.ch_afterBus]), ← State.afterBus_out,
      State.setCh_frame]
    rfl

/-- Settles O32: the transfer completes with a count of 0, so the channel is reloaded and `State.advance_last` says what
becomes of the vector, the line and the trace. -/
theorem lastTransferEndsBlock : Obligations.LastTransferEndsBlock := by
  intro s n rest hf hp wf legal en size source destination read write
  have size_ne : (s.ch n).size ≠ 0#16 := by rw [size]; decide
  have last : (s.ch n).size - 1#16 = 0#16 := by rw [size]; rfl
  have ends : StepEnd s n rest (s.afterTransfer n rest) :=
    .moved en size_ne (State.window_passed source destination) read write
  refine ⟨_, ends.execStep_eq hf hp, State.readByte_afterTransfer wf n rest, ?_, fun m other => ?_, ?_⟩
  · rw [State.ch_afterTransfer, if_pos rfl, if_pos last, Channel.reload_countDown_eq en]
  · rw [State.ch_afterTransfer, if_neg other]
  · rw [State.afterTransfer, State.advance_last (s := s.afterBus n) legal (by rwa [State.ch_afterBus]), State.ch_afterBus,
      ← State.afterBus_out,
      State.setCh_frame]
    rfl

end Sys2Proof.Machine
end

section
/-! The interrupt arbiter (R113, R114, R119): ACQUIRE and RELEASE in one formula each, and the priority invariant of the
vector through every operation. -/

namespace Sys2Proof.Machine

/-- Settles O16: the arms of ACQUIRE write the same fields (`State.acquire_eq`), and on a legal vector the owner's index
decides as its vector value does. -/
theorem acquireByPriority : Obligations.AcquireByPriority := by
  intro s i legal
  rw [State.acquire_eq, vectorAfterAcquire_eq legal]

/-- Settles O17: a legal vector names its owner as `State.released` says, and then the rescan finds the same channel. -/
theorem releaseHandsVectorOn : Obligations.ReleaseHandsVectorOn := fun _ legal => State.release_legal legal

/-! ### The lowest waiting channel (R114, R119) -/

theorem State.priorityOk_iff {s : State} : s.priorityOk = true ↔ s.pv = vectorValue s.lowestWaiting := beq_iff_eq

/-- With the priority invariant the vector is legal (R33). -/
theorem State.legalVector_of_priorityOk {s : State} (ok : s.priorityOk = true) : legalVector s.pv = true := by
  rw [State.priorityOk_iff.1 ok]
  exact legalVector_vectorValue _

/-- The channel that is found waits. -/
theorem State.waits_of_lowestWaiting {s : State} {n : ChIdx} (h : s.lowestWaiting = some n) :
    ((s.ch n).ifg && (s.ch n).ie) = true :=
  List.find?_some (p := fun m => (s.ch m).ifg && (s.ch m).ie) h

/-- A written channel that does not wait, and was not the lowest that does, leaves the lowest where it was. -/
theorem State.lowestWaiting_setCh_idle {s : State} {n : ChIdx} {c : Channel} (idle : (c.ifg && c.ie) = false)
    (other : s.lowestWaiting ≠ some n) : (s.setCh n c).lowestWaiting = s.lowestWaiting := by
  rw [State.lowestWaiting_eq] at other ⊢
  rw [State.lowestWaiting_eq]
  cases n
  all_goals
    simp only [State.setCh, idle]
    grind

/-- A written channel that waits takes the vector as ACQUIRE does (R113): from no channel, or from one of a higher
index. -/
theorem State.lowestWaiting_setCh_waiting {s : State} {n : ChIdx} {c : Channel} (waits : (c.ifg && c.ie) = true) :
    vectorValue (s.setCh n c).lowestWaiting = vectorAfterAcquire (vectorValue s.lowestWaiting) n := by
  rw [State.lowestWaiting_eq, State.lowestWaiting_eq]
  cases n
  all_goals
    simp only [State.setCh, waits]
    split_ifs <;> rfl

/-! ### What keeps the priority invariant (R119) -/

theorem State.acquire_ch (s : State) (i n : ChIdx) : (s.acquire i).ch n = s.ch n := by
  rw [State.acquire_eq]; cases n <;> rfl

/-- The invariant looks at the vector, at `ifg` and at `ie` only. -/
theorem State.priorityOk_congr {s t : State} (ok : s.priorityOk = true) (pv : t.pv = s.pv)
    (flags : ∀ n, ((t.ch n).ifg && (t.ch n).ie) = ((s.ch n).ifg && (s.ch n).ie)) : t.priorityOk = true := by
  rw [State.priorityOk_iff] at ok ⊢
  rw [pv, ok]
  simp only [State.lowestWaiting, flags]

theorem State.priorityOk_setCh {s : State} (ok : s.priorityOk = true) {n : ChIdx} {c : Channel}
    (flags : (c.ifg && c.ie) = ((s.ch n).ifg && (s.ch n).ie)) : (s.setCh n c).priorityOk = true := by
  refine State.priorityOk_congr ok (s.setCh_pv n c) fun m => ?_
  rw [State.ch_setCh]
  split
  · next h => rw [h, flags]
  · rfl

/-- RELEASE sets the invariant up, whatever the vector was (R114). -/
theorem State.priorityOk_release (s : State) : s.release.priorityOk = true := State.priorityOk_iff.2 s.release_pv

/-- The invariant after a channel has its flag and its enable set and asks for the vector (R84, R107). -/
theorem State.priorityOk_setCh_acquire {s : State} (ok : s.priorityOk = true) {n : ChIdx} {c : Channel}
    (waits : (c.ifg && c.ie) = true) : ((s.setCh n c).acquire n).priorityOk = true := by
  have legal : legalVector (s.setCh n c).pv = true := by
    rw [State.setCh_pv]; exact State.legalVector_of_priorityOk ok
  rw [State.priorityOk_iff, State.acquire_pv legal, State.lowestWaiting_congr (State.acquire_ch _ n),
    State.lowestWaiting_setCh_waiting waits, State.setCh_pv, State.priorityOk_iff.1 ok]

/-- A control write that is not stale clears `ie` only of a channel whose flag is 0. -/
theorem State.ifg_of_not_stale {s : State} {n : ChIdx} {v : Word16} (fresh : s.staleWrite n v = false)
    (disable : v.getLsbD 2 = false) : (s.ch n).ifg = false := by
  simp only [State.staleWrite, Bool.or_eq_false_iff, disable, Bool.not_false, Bool.true_and] at fresh
  exact fresh.1

/-- The writes R119 excludes, for the three channels at once. -/
theorem State.staleInstr_control (s : State) (n : ChIdx) (w : Width) (v : Word16) :
    s.staleInstr (.wr (.channel n .ctl) w v) = s.staleWrite n v := by
  cases n <;> rfl

/-- A control write that is not stale: by the owner clearing its flag RELEASE runs, a channel that asks acquires, and in
the third case the channel does not wait and was not the owner. -/
theorem State.priorityOk_configure {s : State} (ok : s.priorityOk = true) {n : ChIdx} {v : Word16}
    (fresh : s.staleWrite n v = false) : (s.configure n v).priorityOk = true := by
  rw [State.priorityOk_iff, State.configure_pv, State.configure_lowestWaiting, ← State.priorityOk_iff]
  obtain ⟨-, -, -, h⟩ | ⟨flag, enable, h⟩ | ⟨keeps, asks, h⟩ := State.configureArbiter_cases s n v <;> rw [h]
  · exact State.priorityOk_release _
  · exact State.priorityOk_setCh_acquire ok (by simp [Channel.decodeCtl, flag, enable])
  · have idle : (((s.ch n).decodeCtl v).ifg && ((s.ch n).decodeCtl v).ie) = false := by
      simpa [Channel.decodeCtl] using asks
    have other : s.lowestWaiting ≠ some n := fun owner => by
      obtain ⟨ifg, ie⟩ := Bool.and_eq_true_iff.1 (State.waits_of_lowestWaiting owner)
      have flag : v.getLsbD 3 = true := by
        by_contra clear
        exact keeps ⟨by simpa using clear, ie, by rw [State.priorityOk_iff.1 ok, owner]⟩
      have disable : v.getLsbD 2 = false := by simpa [flag] using asks
      exact Bool.false_ne_true ((State.ifg_of_not_stale fresh disable).symm.trans ifg)
    rw [State.priorityOk_iff, State.setCh_pv, State.lowestWaiting_setCh_idle idle other]
    exact State.priorityOk_iff.1 ok

theorem State.priorityOk_readEffect {s : State} (ok : s.priorityOk = true) (r : Reg) :
    (s.readEffect r).priorityOk = true := by
  rcases r with r | ⟨n, r⟩
  · cases r
    case iv => exact State.priorityOk_release _
    all_goals exact ok
  · cases r <;> exact ok

theorem State.priorityOk_writeEffect {s : State} (ok : s.priorityOk = true) {r : Reg} {v : Word16}
    (fresh : s.staleInstr (.wr r .word v) = false) : (s.writeEffect v r).priorityOk = true := by
  rcases r with r | ⟨n, r⟩
  · cases r
    case iv => exact State.priorityOk_release s
    all_goals exact ok
  · cases r
    case ctl => exact State.priorityOk_configure ok (State.staleInstr_control s n .word v ▸ fresh)
    all_goals exact State.priorityOk_setCh ok rfl

/-- The counters of a transfer: the end of a block sets the flag, and a channel with `ie` then asks for the vector
(R107). -/
theorem State.priorityOk_advance {s : State} (ok : s.priorityOk = true) (n : ChIdx) : (s.advance n).priorityOk = true := by
  obtain ⟨-, h⟩ | ⟨-, ie, h⟩ | ⟨-, ie, h⟩ := State.advance_cases s n <;> rw [h]
  · exact State.priorityOk_setCh ok rfl
  · exact State.priorityOk_setCh_acquire ok (by simp [Channel.reload, Channel.countDown, ie])
  · exact State.priorityOk_setCh ok (by simp [Channel.reload, Channel.countDown, ie])

theorem StepEnd.priorityOk {s t : State} {n : ChIdx} {rest : List ChIdx} (h : StepEnd s n rest t)
    (ok : s.priorityOk = true) : t.priorityOk = true := by
  cases h with
  | moved => exact State.priorityOk_advance (s := s.afterBus n) ok n
  | _ => exact ok

/-- Settles O51: RELEASE sets the invariant up, ACQUIRE keeps it when a channel starts to wait, and an operation that does
neither changes no channel's waiting but by a control write (`State.priorityOk_configure`). -/
theorem priorityInvariantKept : Obligations.PriorityInvariantKept := by
  intro i s t ok fresh h
  cases (exec_end h).2 with
  | read r => exact State.priorityOk_readEffect ok r
  | write r v => exact State.priorityOk_writeEffect ok fresh
  | step _ _ _ _ ends => exact ends.priorityOk ok
  | reset => rfl
  | _ => exact ok

end Sys2Proof.Machine
end

section
/-! The control shadows and the bindings (R124 to R134, R141): reads and writes of DMACTL0 to DMACTL4, and which operations
change a channel's binding or the trigger table. -/

namespace Sys2Proof.Machine

/-! ### Reads and writes of the shadows -/

/-- Settles O13: the read effect of each shadow. -/
theorem controlShadowReads : Obligations.ControlShadowReads :=
  ⟨fun _ => ⟨rfl, rfl, rfl, rfl, rfl⟩, fun _ hf =>
    ⟨exec_rd_word hf (.global .ctl0), exec_rd_word hf (.global .ctl1), exec_rd_word hf (.global .ctl2),
      exec_rd_word hf (.global .ctl3), exec_rd_word hf (.global .ctl4)⟩⟩

/-- Settles O14: the write effect of each reserved control. -/
theorem reservedControlWrites : Obligations.ReservedControlWrites :=
  ⟨fun _ _ => ⟨rfl, rfl, rfl⟩, fun _ d hf =>
    ⟨exec_wr_word hf (.global .ctl2) d, exec_wr_word hf (.global .ctl3) d, exec_wr_word hf (.global .ctl4) d⟩⟩

/-- The select field in bits 4:0 as a number (R74). -/
theorem extractLsb'_zero_five (v : Word16) : v.extractLsb' 0 5 = BitVec.ofNat 5 (v.toNat % 32) := by
  rw [extractLsb'_eq_ofNat, Nat.pow_zero, Nat.div_one]
  rfl

/-- The select field in bits 12:8 as a number (R74). -/
theorem extractLsb'_eight_five (v : Word16) : v.extractLsb' 8 5 = BitVec.ofNat 5 (v.toNat / 256 % 32) :=
  extractLsb'_eq_ofNat v 8 5

/-- Settles O15: the write effects of the two select registers, their fields as numbers. -/
theorem triggerSelectWritesRebind : Obligations.TriggerSelectWritesRebind := by
  refine ⟨fun _ _ => ⟨rfl, rfl⟩, fun s d hf => ?_⟩
  rw [← extractLsb'_zero_five, ← extractLsb'_eight_five]
  exact ⟨exec_wr_word hf (.global .ctl0) d, exec_wr_word hf (.global .ctl1) d⟩

/-! ### Who changes a binding (R141) -/

/-- The register that selects a channel's trigger (R30, R74). -/
def selectReg : ChIdx → Reg
  | .c0 | .c1 => .global .ctl0
  | .c2 => .global .ctl1

/-- A write of the select register takes the entry that `tsel` then names (R124). -/
theorem State.writeEffect_selectReg_bound (s : State) (v : Word16) (n : ChIdx) :
    ((s.writeEffect v (selectReg n)).ch n).bound = s.tableAt ((s.writeEffect v (selectReg n)).tsel n) := by
  cases n <;> rfl

/-- RELEASE clears a flag and no binding. -/
theorem State.chAfterRelease_bound (s : State) (n : ChIdx) : (s.chAfterRelease n).bound = (s.ch n).bound := by
  unfold State.chAfterRelease
  split <;> rfl

/-- A channel write that keeps its channel's binding keeps them all. -/
theorem State.setCh_bound {s : State} {n : ChIdx} {c : Channel} (h : c.bound = (s.ch n).bound) (m : ChIdx) :
    ((s.setCh n c).ch m).bound = (s.ch m).bound := by
  rw [State.ch_setCh]
  split
  · next hm => rw [hm, h]
  · rfl

theorem State.readEffect_bound (s : State) (r : Reg) (n : ChIdx) : ((s.readEffect r).ch n).bound = (s.ch n).bound := by
  rw [State.readEffect_ch]
  split
  · exact s.chAfterRelease_bound n
  · rfl

/-- A register write that is not a write of the channel's select register keeps its binding. -/
theorem State.writeEffect_bound (s : State) (v : Word16) {r : Reg} {n : ChIdx} (other : r ≠ selectReg n) :
    ((s.writeEffect v r).ch n).bound = (s.ch n).bound := by
  rcases r with r | ⟨m, r⟩
  · cases r
    case ctl0 =>
      cases n with
      | c0 => exact absurd rfl other
      | c1 => exact absurd rfl other
      | c2 => rfl
    case ctl1 =>
      cases n with
      | c0 => rfl
      | c1 => rfl
      | c2 => exact absurd rfl other
    case iv => exact (congrArg Channel.bound (s.release_ch n)).trans (s.chAfterRelease_bound n)
    all_goals cases n <;> rfl
  · cases r
    case ctl =>
      rw [State.writeEffect, State.configure_ch, ← State.ch_setCh]
      exact State.setCh_bound (c := (s.ch m).decodeCtl v) rfl n
    all_goals
      refine State.setCh_bound ?_ n
      rfl

/-- R141: who changes a binding. -/
theorem OpEnd.bound_changed {s t : State} {i : Instr} (h : OpEnd s i t) {n : ChIdx}
    (changed : (t.ch n).bound ≠ (s.ch n).bound) : i = .reset ∨ ∃ d, i = .wr (selectReg n) .word d := by
  cases h with
  | read r => exact absurd (s.readEffect_bound r n) changed
  | write r d =>
    by_cases select : r = selectReg n
    · exact .inr ⟨d, by rw [select]⟩
    · exact absurd (s.writeEffect_bound d select) changed
  | step _ _ _ _ ends => exact absurd (ends.bound_eq n) changed
  | reset => exact .inl rfl
  | _ => cases n <;> exact absurd rfl changed

/-! ### Who changes the trigger table (R31, R141) -/

theorem State.readEffect_table (s : State) (r : Reg) : (s.readEffect r).table = s.table := by
  rcases r with r | ⟨n, r⟩
  · cases r
    case iv => rw [State.readEffect, State.release_eq]; rfl
    all_goals rfl
  · cases r <;> rfl

theorem State.writeEffect_table (s : State) (v : Word16) (r : Reg) : (s.writeEffect v r).table = s.table := by
  rcases r with r | ⟨n, r⟩
  · cases r
    case iv => rw [State.writeEffect, State.release_eq]
    all_goals rfl
  · cases r
    case ctl => rw [State.writeEffect, State.configure_frame]
    all_goals exact State.setCh_table s n _

theorem StepEnd.table_eq {s t : State} {n : ChIdx} {rest : List ChIdx} (h : StepEnd s n rest t) : t.table = s.table := by
  cases h with
  | moved => exact (congrArg State.table ((s.afterBus n).advance_frame n) :)
  | _ => rfl

/-- R141: who changes the trigger table. -/
theorem OpEnd.table_changed {s t : State} {i : Instr} (h : OpEnd s i t) (changed : t.table ≠ s.table) :
    ∃ e p k, i = .bind e p k := by
  cases h with
  | read r => exact absurd (s.readEffect_table r) changed
  | write r d => exact absurd (s.writeEffect_table d r) changed
  | step _ _ _ _ ends => exact absurd ends.table_eq changed
  | bind e p k => exact ⟨e, p, k, rfl⟩
  | _ => exact absurd rfl changed

/-- Settles O39: the bindings of the three channels, and the table. -/
theorem bindingsAreCopies : Obligations.BindingsAreCopies := by
  intro i s t h
  have ends := (exec_end h).2
  have changed : ∀ n, (t.ch n).bound ≠ (s.ch n).bound → i = .reset ∨ ∃ d, i = .wr (selectReg n) .word d :=
    fun _ => ends.bound_changed
  exact ⟨fun h01 => h01.elim (changed .c0) (changed .c1), changed .c2, ends.table_changed⟩

end Sys2Proof.Machine
end

section
/-! The trigger multiplexer (R137 to R140): FIRE, and BIND inside and above the table. -/

namespace Sys2Proof.Machine

/-- Settles O37: `execFire_eq` is the rule. -/
theorem fireSchedulesBoundChannels : Obligations.FireSchedulesBoundChannels :=
  ⟨fun _ _ => rfl, fun _ p k hf => execFire_eq hf p k⟩

/-- R140: an id above 31. -/
theorem execBind_above {s : State} (hf : s.fault = none) {e : BitVec 7} (above : 31 < e.toNat) (p : Provider) (k : Byte) :
    execBind e p k s = .next (s.raise (.bindRange e)) := by
  rw [execBind, State.accept_none hf, if_pos above]

/-- R140: an id of the table. -/
theorem execBind_inside {s : State} (hf : s.fault = none) {e : BitVec 7} (inside : e.toNat ≤ 31) (p : Provider)
    (k : Byte) :
    execBind e p k s = .next ((s.setTable (e.setWidth 5) (some ⟨p, k⟩)).emit (.registerDMA p)) := by
  rw [execBind, State.accept_none hf, if_neg (by omega)]

/-- An id of the table names the entry of the same number (R31, R140). -/
theorem setWidth_eq_trigId_iff {t : BitVec 7} (inside : t.toNat ≤ 31) (e : TrigId) :
    t.setWidth 5 = e ↔ e.toNat = t.toNat := by
  rw [← BitVec.toNat_inj, BitVec.toNat_setWidth, Nat.mod_eq_of_lt (by omega), eq_comm]

/-- Settles O38: the entry whose number is the id is written, and an id above 31 names none. -/
theorem bindWritesTableEntry : Obligations.BindWritesTableEntry := by
  refine ⟨fun t p k => opWord_toNat _ t, fun s t p k hf inside => ?_,
    fun s t p k hf above => execBind_above hf above p k⟩
  refine ⟨_, execBind_inside hf inside p k, fun e => ?_, rfl⟩
  rw [State.tableAt_congr (State.emit_table _ _), State.tableAt_setTable]
  simp only [setWidth_eq_trigId_iff inside]

/-- Settles O11: `exec` raises the mark, and so does the word, which decodes to no operation (R71). -/
theorem bindAboveTableRaisesBindRange : Obligations.BindAboveTableRaisesBindRange := by
  refine fun s t p k hf above => ⟨execBind_above hf above p k, fun w d dr st rest hi => ?_⟩
  rw [step_serve hf hi, State.serve_op, decode_bind, if_neg (by omega)]
  rfl

end Sys2Proof.Machine
end

section
/-! The vector register DMAIV (R135, R136): a read returns the vector and runs RELEASE, a write runs RELEASE. -/

namespace Sys2Proof.Machine

/-- R135: a DMAIV read with a legal vector, RELEASE in its formula. -/
theorem exec_rdDmaiv {s : State} (hf : s.fault = none) (legal : legalVector s.pv = true) :
    exec (.rdDmaiv .word) s = .next (s.returnData s.pv).released := by
  rw [← State.release_legal (s := s.returnData s.pv) legal]
  exact exec_rd_word hf (.global .iv)

/-- Settles O18: the read is RELEASE after the value is returned. -/
theorem readDmaivReturnsThenReleases : Obligations.ReadDmaivReturnsThenReleases :=
  ⟨fun _ => rfl, fun _ => exec_rdDmaiv⟩

/-- Settles O19: the write effect of DMAIV is RELEASE. -/
theorem writeDmaivReleases : Obligations.WriteDmaivReleases := by
  refine ⟨fun _ _ => rfl, fun s d hf legal => ?_⟩
  rw [← State.release_legal legal]
  exact exec_wr_word hf (.global .iv) d

/-- Settles O54: RELEASE appends line events to the value returned before it. -/
theorem dmaivReadReturnsVectorAndReleases : Obligations.DmaivReadReturnsVectorAndReleases := by
  refine ⟨fun _ => rfl, fun s hf legal => ?_⟩
  refine ⟨_, .readData s.pv :: s.lineEvent false :: (if s.nextOwner.isSome then [s.lineEvent true] else []),
    exec_rdDmaiv hf legal, List.append_assoc s.out [_] _, ?_, ?_, rfl⟩
  · cases s.nextOwner <;> rfl
  · rw [State.released]; cases s.nextOwner <;> rfl

/-! ### Two reads (C3) -/

theorem State.released_ch (s : State) (n : ChIdx) : s.released.ch n = s.releasedCh n := by cases n <;> rfl

/-- R114: RELEASE finds no next owner when no channel waits but the one that owns the vector. -/
theorem State.nextOwner_eq_none {s : State} {n : ChIdx} (owner : s.pv = vectorValue (some n))
    (others : ∀ m, m ≠ n → ((s.ch m).ie && (s.ch m).ifg) = false) : s.nextOwner = none := by
  refine List.find?_eq_none.2 fun m _ => ?_
  rw [State.releasedCh, owner]
  by_cases hm : m = n
  · rw [hm, if_pos rfl]; simp
  · rw [if_neg fun h => hm (Option.some.inj (vectorValue_inj h)).symm, others m hm]
    exact Bool.false_ne_true

/-- RELEASE of a free vector clears no flag (R114). -/
theorem State.releasedCh_of_free {s : State} (free : s.pv = 0x0000#16) (n : ChIdx) : s.releasedCh n = s.ch n :=
  if_neg fun owner => Option.some_ne_none n (vectorValue_eq_zero.1 (owner.symm.trans free))

/-- R114: RELEASE without a next owner frees the vector and deasserts the line. -/
theorem State.released_idle {s : State} (idle : s.nextOwner = none) :
    s.released.pv = 0x0000#16 ∧ s.released.irq = false ∧ s.released.out = s.out ++ [s.lineEvent false] := by
  simp [State.released, idle, vectorValue]

/-- A second RELEASE finds no owner where the first found none. -/
theorem State.released_nextOwner {s : State} (idle : s.nextOwner = none) : s.released.nextOwner = none := by
  have kept : ∀ n, s.released.releasedCh n = s.releasedCh n := fun n => by
    rw [State.releasedCh_of_free (State.released_idle idle).1, State.released_ch]
  simp only [State.nextOwner, kept]
  exact idle

/-- A DMAIV read that finds no next owner, and after which a read finds none again. -/
theorem exec_rdDmaiv_idle {s : State} (hf : s.fault = none) (legal : legalVector s.pv = true) (idle : s.nextOwner = none) :
    ∃ t, exec (.rdDmaiv .word) s = .next t ∧ t.fault = none ∧ t.nextOwner = none ∧ t.lineEvent = s.lineEvent ∧
      t.pv = 0x0000#16 ∧ t.irq = false ∧ t.out = s.out ++ [.readData s.pv, s.lineEvent false] := by
  have idle_read : (s.returnData s.pv).nextOwner = none := idle
  obtain ⟨free, low, out⟩ := State.released_idle idle_read
  refine ⟨_, exec_rdDmaiv hf legal, hf, State.released_nextOwner idle_read, rfl, free, low, ?_⟩
  rw [out, State.returnData_out, List.append_assoc]
  rfl

/-- Settles O20: neither read finds a next owner, so the second finds the vector free. -/
theorem secondVectorReadIsZero : Obligations.SecondVectorReadIsZero := by
  intro s n hf owner others
  have legal : legalVector s.pv = true := by rw [owner]; exact legalVector_vectorValue _
  obtain ⟨t, first, ht, idle, line, free, -, out⟩ := exec_rdDmaiv_idle hf legal (State.nextOwner_eq_none owner others)
  obtain ⟨u, second, -, -, -, free_again, low, out_again⟩ := exec_rdDmaiv_idle ht (by rw [free]; rfl) idle
  refine ⟨t, u, first, second, ?_, free_again, low⟩
  rw [out_again, out, free, line, owner, List.append_assoc]
  rfl

end Sys2Proof.Machine
end

section
/-! Fault marks, reserved words, the end of a run and the interrupt line (R144, R147, R151, R153, D29). -/

namespace Sys2Proof.Machine

/-! ### Words that name no operation (R147) -/

/-- R71's reserved words: KIND 110 or 111, or X ≠ 0 with a KIND that does not use X. -/
theorem decode_reserved {o : Op}
    (reserved : o.word.toNat / 128 = 6 ∨ o.word.toNat / 128 = 7 ∨
      ((o.word.toNat / 128 = 2 ∨ o.word.toNat / 128 = 4 ∨ o.word.toNat / 128 = 5) ∧ o.word.toNat % 128 ≠ 0)) :
    decode o = .reserved o.word := by
  have h := decoderClassifiesEveryWord o
  rcases or_assoc.2 reserved with kind | unusedX
  · rwa [if_pos kind] at h
  · rwa [if_neg (by omega), if_pos unusedX] at h

/-- Settles O10: serving a word that decodes to no operation refuses it. -/
theorem reservedWordsAreRefused : Obligations.ReservedWordsAreRefused := by
  intro s o dr st rest hf hi reserved
  rw [step_serve hf hi, State.serve_op, decode_reserved reserved]
  rfl

/-! ### The fault mark (R144) and the end of a run (D29) -/

/-- Settles O9: a step looks at the fault mark first, and so does every operation of the table. -/
theorem faultedStateAcceptsNothing : Obligations.FaultedStateAcceptsNothing :=
  fun _ _ h => ⟨step_faulted h, exec_faulted h⟩

/-- D29, clause by clause. -/
theorem State.successfulEnd_iff {s : State} :
    s.successfulEnd = true ↔ s.input = [] ∧ s.pending = [] ∧ s.fault = none := by
  simp only [State.successfulEnd, Bool.and_eq_true, List.isEmpty_iff, Option.isNone_iff_eq_none, and_assoc]

/-- Settles O53: a successful end has an empty input list and an empty queue (O12), and no fault mark. -/
theorem successfulEndIsFinal : Obligations.SuccessfulEndIsFinal := by
  refine fun s => ⟨fun done => ?_, fun marked => ?_⟩
  · obtain ⟨input, pending, fault⟩ := State.successfulEnd_iff.1 done
    exact ⟨step_idle fault input, execStep_empty fault pending⟩
  · refine Bool.eq_false_iff.2 fun done => ?_
    obtain ⟨-, -, fault⟩ := State.successfulEnd_iff.1 done
    rw [fault] at marked
    exact Bool.false_ne_true marked

/-! ### The interrupt line and the vector read (R151, R153) -/

/-- Some channel is the lowest that waits exactly while one waits. -/
theorem State.lowestWaiting_isSome {s : State} :
    s.lowestWaiting.isSome = true ↔ ∃ n, (s.ch n).ifg = true ∧ (s.ch n).ie = true := by
  have every : ∀ n : ChIdx, n ∈ [ChIdx.c0, .c1, .c2] := fun n => by cases n <;> decide
  simp [State.lowestWaiting, List.find?_isSome, every]

/-- No channel is the lowest that waits when none waits. -/
theorem State.lowestWaiting_eq_none {s : State} (idle : ∀ n, ((s.ch n).ifg && (s.ch n).ie) = false) :
    s.lowestWaiting = none :=
  List.find?_eq_none.2 fun n _ => Bool.eq_false_iff.1 (idle n)

/-- A channel is the lowest that waits when it waits and none below it does. -/
theorem State.lowestWaiting_eq_some {s : State} {n : ChIdx} (waits : ((s.ch n).ifg && (s.ch n).ie) = true)
    (below : ∀ m, m.num < n.num → ((s.ch m).ifg && (s.ch m).ie) = false) : s.lowestWaiting = some n := by
  rw [State.lowestWaiting_eq]
  cases n with
  | c0 => exact if_pos waits
  | c1 =>
    have idle0 : (s.ch0.ifg && s.ch0.ie) = false := below .c0 (by decide)
    rw [idle0]
    exact if_pos waits
  | c2 =>
    have idle0 : (s.ch0.ifg && s.ch0.ie) = false := below .c0 (by decide)
    have idle1 : (s.ch1.ifg && s.ch1.ie) = false := below .c1 (by decide)
    rw [idle0, idle1]
    exact if_pos waits

/-- R33 and R119 together: the line is high exactly while some channel is the lowest that waits. -/
theorem State.irq_eq_isSome_lowestWaiting {s : State} (arbiter : s.arbiterOk = true) (priority : s.priorityOk = true) :
    s.irq = s.lowestWaiting.isSome := by
  obtain ⟨o, vector, line⟩ := State.arbiterOk_iff.1 arbiter
  have owner : o = s.lowestWaiting := vectorValue_inj (vector.symm.trans (State.priorityOk_iff.1 priority))
  rw [line, owner]

/-- R135: the vector is the one value a DMAIV read returns. -/
theorem exec_rdDmaiv_readData_iff {s : State} (hf : s.fault = none) (legal : legalVector s.pv = true) :
    ∃ t, exec (.rdDmaiv .word) s = .next t ∧ ∀ v, .readData v ∈ t.out.drop s.out.length ↔ v = s.pv := by
  obtain ⟨t, l, run, out, values, -, -⟩ := dmaivReadReturnsVectorAndReleases.2 s hf legal
  refine ⟨t, run, fun v => ?_⟩
  calc .readData v ∈ t.out.drop s.out.length
    _ ↔ .readData v ∈ l := by rw [out, List.drop_left]
    _ ↔ .readData v ∈ [Output.readData s.pv] := by rw [← values, List.mem_filter]; exact (and_iff_left rfl).symm
    _ ↔ v = s.pv := by rw [List.mem_singleton, Output.readData.injEq]

/-- With the priority invariant a DMAIV read returns the vector of the lowest channel that waits (R119). -/
theorem exec_rdDmaiv_lowestWaiting {s : State} (hf : s.fault = none) (priority : s.priorityOk = true) :
    ∃ t, exec (.rdDmaiv .word) s = .next t ∧
      ∀ v, .readData v ∈ t.out.drop s.out.length ↔ v = vectorValue s.lowestWaiting :=
  State.priorityOk_iff.1 priority ▸ exec_rdDmaiv_readData_iff hf (State.legalVector_of_priorityOk priority)

/-- Settles O52: the line follows the lowest channel that waits, and a DMAIV read returns its vector, or 0 when there is
none. -/
theorem vectorReadNamesHighestPriority : Obligations.VectorReadNamesHighestPriority := by
  intro s hf ok priority
  refine ⟨?_, fun n flag enable below => ?_, fun idle => ?_⟩
  · rw [State.irq_eq_isSome_lowestWaiting (State.ok_iff.1 ok).1 priority]
    exact State.lowestWaiting_isSome
  · rw [← State.lowestWaiting_eq_some (Bool.and_eq_true_iff.2 ⟨flag, enable⟩) below]
    exact exec_rdDmaiv_lowestWaiting hf priority
  · have read := exec_rdDmaiv_lowestWaiting hf priority
    rwa [State.lowestWaiting_eq_none idle] at read

end Sys2Proof.Machine
end

section
/-! RESET (R164) and the power-up state (R39, R165). -/

namespace Sys2Proof.Machine

/-- Settles O40: RESET has one result (`execReset_eq`), whose channels are those of R39; a faulted state accepts nothing
(R144). -/
theorem resetClearsBlock : Obligations.ResetClearsBlock := by
  refine ⟨rfl, fun s hf => ⟨_, execReset_eq hf, fun n => ?_, rfl⟩, fun s m faulted => exec_faulted faulted _⟩
  exact (State.ch_congr rfl rfl rfl n).trans (State.ch_chipReset s n)

/-- R39: every channel is at its power-up value. -/
theorem State.reset_ch (n : ChIdx) : State.reset.ch n = Channel.reset := by cases n <;> rfl

/-- R39: every entry of the trigger table is `none`. -/
theorem State.reset_tableAt (e : TrigId) : State.reset.tableAt e = none := Vector.getElem_replicate e.isLt

/-- At power-up nothing was driven yet (log 10). -/
theorem State.reset_out : State.reset.out = [] := rfl

/-- A read at power-up of any register but DMAIV drives the value 0 and does nothing else. -/
theorem State.reset_readEffect {r : Reg} (other : r ≠ .global .iv) :
    State.reset.readEffect r = State.reset.returnData 0x0000#16 := by
  rcases r with g | ⟨n, c⟩
  · cases g with
    | iv => exact absurd rfl other
    | ctl0 | ctl1 | ctl2 | ctl3 | ctl4 => rfl
  · cases c <;> simp only [State.readEffect, State.reset_ch] <;> rfl

/-- A power-up read of any register returns 0 and no other value: the trace begins empty, so only this read is in it. -/
theorem exec_rd_reset_readData_iff (r : Reg) :
    ∃ t, exec (.rd r .word) State.reset = .next t ∧ ∀ v, .readData v ∈ t.out ↔ v = 0x0000#16 := by
  by_cases iv : r = .global .iv
  · subst iv
    exact exec_rdDmaiv_readData_iff (s := State.reset) rfl rfl
  · refine ⟨_, exec_rd_word rfl r, fun v => ?_⟩
    rw [State.reset_readEffect iv, State.returnData_out, State.reset_out, List.nil_append, List.mem_singleton,
      Output.readData.injEq]

/-- Settles O41: the fields of R39, and a read of each register there. -/
theorem powerUpState : Obligations.PowerUpState :=
  ⟨State.reset_ch, State.reset_tableAt, rfl, rfl, rfl, rfl, exec_rd_reset_readData_iff⟩

end Sys2Proof.Machine
end

section
/-! The words of the encoding vectors (95_test_vectors.md L2.5). -/

namespace Sys2Proof.Machine

/-- Settles O3: each word is its KIND and X, and the decoder's rule for that KIND (R66 to R71) gives its class. -/
theorem specVectorWordsDecode : Obligations.SpecVectorWordsDecode := by
  intro w d p k
  have reserved110 := fun x => decode_reservedKind 0b110#3 (.inl rfl) x w d p k
  have reserved111 := fun x => decode_reservedKind 0b111#3 (.inr rfl) x w d p k
  refine ⟨?rdDmaiv, ?wrDma2ctl, ?rdDma2sz, ?fire, ?bind31, ?bind32, ?step, ?reset, ?fireUsedX, ?resetUsedX,
    reserved110 0x00#7, reserved110 0x7F#7, reserved111 0x00#7, reserved111 0x7F#7, ?rd0C, ?wr4E⟩
  case rdDmaiv => exact decode_access_some (regAt_offsetOf (.global .iv)) false w d p k
  case wrDma2ctl => exact decode_access_some (regAt_offsetOf (.channel .c2 .ctl)) true w d p k
  case rdDma2sz => exact decode_access_some (regAt_offsetOf (.channel .c2 .sz)) false w d p k
  case rd0C => exact decode_access_none (x := 0x0C#7) rfl false w d p k
  case wr4E => exact decode_access_none (x := 0x4E#7) rfl true w d p k
  case fire => exact (decode_fire 0#7 w d p k).trans (if_pos rfl)
  case fireUsedX => exact (decode_fire 1#7 w d p k).trans (if_neg (by decide))
  case bind31 => exact (decode_bind 31#7 w d p k).trans (if_pos (by decide))
  case bind32 => exact (decode_bind 32#7 w d p k).trans (if_neg (by decide))
  case step => exact (decode_step 0#7 w d p k).trans (if_pos rfl)
  case reset => exact (decode_reset 0#7 w d p k).trans (if_pos rfl)
  case resetUsedX => exact (decode_reset 1#7 w d p k).trans (if_neg (by decide))

end Sys2Proof.Machine
end
